-- ==== Sys2Proof/Word.lean ====
section
/-! DEFINITION. The word types of the FJT-396: bytes, time counter values, round numbers, sequence numbers. -/

namespace Sys2Proof

/-- One byte of a request, an answer or a field bus frame (R123, R166). -/
abbrev Byte := BitVec 8

/-- A value of the free-running 32-bit microsecond time counter (section 7 of 00_scope.md). -/
abbrev Time := BitVec 32

/-- A round number, the 32-bit count of round latches (R63). -/
abbrev RoundNo := BitVec 32

/-- A journal sequence number or a move id: 16 bits, wrapping (R82, R159). -/
abbrev Seq := BitVec 16

/-- How far one 32-bit stamp lies after another, modulo 2^32 (section 7 of 00_scope.md, R63). -/
def since (now stamp : BitVec 32) : Nat := (now - stamp).toNat

end Sys2Proof
end

