-- ==== Sys2Proof/Syntax.lean ====
section
/-! DEFINITION. The commands of the FJT-396: one constructor of `Instr` for each row of spec/opcode_table.json. -/

namespace Sys2Proof

/-- The three master ports (section 5 of 00_scope.md, R170). -/
inductive Port where
  | a | b | c
  deriving DecidableEq, Repr

/-- The three phases, in the order L1, L2, L3. -/
inductive Phase where
  | l1 | l2 | l3
  deriving DecidableEq, Repr

/-- The level of a zero-crossing pin (R103). -/
inductive Level where
  | low | high
  deriving DecidableEq, Repr

/-- One eleven-bit character as it stands on FRX (R121): its eight data bits, its parity bit, and
whether its stop bit is found at mark. -/
structure RxChar where
  data : Byte
  parity : Bool
  stopAtMark : Bool
  deriving DecidableEq, Repr

/-- A character of a reply, with the moment its start bit begins (R132). -/
structure RxAt where
  start : Time
  char : RxChar
  deriving DecidableEq, Repr

/-- The moments of a whole reply on the line: `starts` at which its characters begin, in order, and `finish` at which the
last of them ends (R131, R132; log 12). -/
structure FrameTime where
  starts : List Time
  finish : Time
  deriving DecidableEq, Repr

/-- FRX found at space at the moment `time`: it stays there, or returns to mark (R126, R130; log 13). -/
structure SpaceAt where
  stays : Bool
  time : Time
  deriving DecidableEq, Repr

/-- The commands: requests of the masters with the parameters of the catalogue (section 10.3) in the
widths it gives, and the events of the pins, the mains, the field bus and the part itself. An operand
`t : Time` is the time counter value at the event (log 1). -/
inductive Instr where
  /-- POWER_ON_RESET (R179). -/
  | powerOnReset (t : Time)
  /-- RESETN_LOW (R178): a low on RESETN has lasted 10 µs. -/
  | resetnLow (t : Time)
  /-- WARM_RESET (R178): RESETN returns high. -/
  | warmReset (t : Time)
  /-- SELECT_WINDOW_CLOSE (R166): the port's select line goes high. -/
  | selectWindowClose (p : Port) (t : Time)
  /-- UNKNOWN_REQUEST (R166, R167): the bytes clocked in within a window, the request code and what follows it. -/
  | unknownRequest (p : Port) (code : Byte) (rest : List Byte)
  /-- READ_STATUS (R171). -/
  | readStatus (p : Port)
  /-- READ_CONSUMER (R172). -/
  | readConsumer (p : Port) (n : Byte)
  /-- READ_SEGMENT (R27). -/
  | readSegment (p : Port) (k : Byte)
  /-- READ_ROUND (R75). -/
  | readRound (p : Port)
  /-- READ_QUEUE (R102). -/
  | readQueue (p : Port)
  /-- READ_MAINS (R116). -/
  | readMains (p : Port)
  /-- READ_POLICY (R35). -/
  | readPolicy (p : Port)
  /-- READ_JOURNAL (R163). -/
  | readJournal (p : Port)
  /-- READ_QUERY (R153). -/
  | readQuery (p : Port)
  /-- WRITE_POLICY (R36): field id and value. -/
  | writePolicy (p : Port) (f : Byte) (v : BitVec 32)
  /-- COMMIT_POLICY (R37). -/
  | commitPolicy (p : Port)
  /-- DISCARD_POLICY (R38). -/
  | discardPolicy (p : Port)
  /-- START (R59). -/
  | start (p : Port)
  /-- STOP (R60). -/
  | stop (p : Port)
  /-- INSTALL_CONSUMER (R20). -/
  | installConsumer (p : Port) (n address segment allowed cost : Byte)
  /-- REMOVE_CONSUMER (R21). -/
  | removeConsumer (p : Port) (n : Byte)
  /-- SET_SEGMENT_COUNT (R24). -/
  | setSegmentCount (p : Port) (c : Byte)
  /-- INSTALL_SEGMENT (R25). -/
  | installSegment (p : Port) (k : Byte) (limit : BitVec 16)
  /-- SET_MAINS (R119), taken at the time `t`. -/
  | setMains (p : Port) (frequency : Byte) (band tol : BitVec 16) (settle qualify : Byte) (t : Time)
  /-- SET_BUS (R137), taken at the time `t`; the rate in hundreds of bit/s. -/
  | setBus (p : Port) (enable : Byte) (rate : BitVec 16) (t : Time)
  /-- FREEZE (R28). -/
  | freeze (p : Port) (k : Byte)
  /-- THAW (R31). -/
  | thaw (p : Port) (k : Byte)
  /-- HEAD_REPORT (R32): six signed 16-bit components. -/
  | headReport (p : Port) (x1 y1 x2 y2 x3 y3 : BitVec 16)
  /-- HOLD (R16). -/
  | hold (p : Port) (n d : Byte)
  /-- RELEASE (R17). -/
  | release (p : Port) (n : Byte)
  /-- REQUEST_MOVE (R83): the target as its phase code (R168). -/
  | requestMove (p : Port) (n q : Byte)
  /-- QUERY_UNIT (R150). -/
  | queryUnit (p : Port) (n : Byte)
  /-- CLEAR_FLAGS (R174). -/
  | clearFlags (p : Port) (set : BitVec 16)
  /-- SET_MASK (R175). -/
  | setMask (p : Port) (set : BitVec 16)
  /-- RESTART (R177). -/
  | restart (p : Port)
  /-- ROUND_TIMER_EXPIRY (R61, R65): the taking of a round timer expiry. -/
  | roundTimerExpiry
  /-- WINDOW_EXPIRY (R64): a latch at which the window expires (log 4). -/
  | windowExpiry
  /-- HOLD_EXPIRY (R18): a latch at which a hold expires (log 4). -/
  | holdExpiry
  /-- EXPIRED (R66): a latch at which a QUEUED record expires (log 4). -/
  | expired
  /-- COMPLETION (R62). -/
  | completion
  /-- ZC_PIN_CHANGE (R103): the pin of a phase goes to a level. -/
  | zcPinChange (ph : Phase) (level : Level) (t : Time)
  /-- QUALIFY_TIME_EXPIRY (R103). -/
  | qualifyTimeExpiry (ph : Phase) (t : Time)
  /-- LOSS_EXPIRY (R106). -/
  | lossExpiry (ph : Phase) (t : Time)
  /-- INTERNAL_TICK (R118). -/
  | internalTick (t : Time)
  /-- REPEAT_DUE (R93). -/
  | repeatDue
  /-- SWITCHING_WAIT_END (R94). -/
  | switchingWaitEnd
  /-- CONFIRM_RETRY_DUE (R97). -/
  | confirmRetryDue
  /-- ISSUE_GRANT (R88). -/
  | issueGrant
  /-- CONFIRM_GRANT (R95). -/
  | confirmGrant
  /-- RECHECK_GRANT (R148). -/
  | recheckGrant
  /-- QUERY_GRANT (R151). -/
  | queryGrant
  /-- SWEEP_GRANT (R146). -/
  | sweepGrant
  /-- REQUEST_SENT (R128): the echoes of all characters of the request; `none` is a missing echo. -/
  | requestSent (echo : List (Option RxChar)) (t : Time)
  /-- CONTENTION (R129): the echoes up to the bad one. -/
  | contention (echo : List (Option RxChar)) (t : Time)
  /-- FOREIGN_TALKER (R130). -/
  | foreignTalker (t : Time)
  /-- QUIET_LIMIT (R130). -/
  | quietLimit (t : Time)
  /-- QUIET_TIME_END (R127). -/
  | quietTimeEnd (t : Time)
  /-- JOIN_WAIT_COMPLETE (R126). -/
  | joinWaitComplete (t : Time)
  /-- NO_REPLY (R131). -/
  | noReply (t : Time)
  /-- GAP (R132): the characters received before the line fell silent. -/
  | gap (chars : List RxAt) (t : Time)
  /-- REPLY_FAILED (R132): the characters received, the last the one that fails. -/
  | replyFailed (chars : List RxAt) (t : Time)
  /-- STATE (R133): the payload of a STATE frame of the addressed unit, all characters and the check good. -/
  | state (status : Byte) (x y : BitVec 16) (tag : Byte) (t : FrameTime)
  /-- ANSWER (R134): the payload of an ANSWER frame of the addressed unit, all characters and the check good. -/
  | answer (tag verdict : Byte) (t : FrameTime)
  /-- SELECT_WINDOW_OPEN (R166): the port's select line goes low. -/
  | selectWindowOpen (p : Port)
  /-- FRX_AT_SPACE (R126, R131): FRX is at space, where it stays or from where it returns to mark. -/
  | frxAtSpace (t : SpaceAt)
  deriving DecidableEq, Repr

end Sys2Proof
end

