-- ==== Sys2Proof/Decode.lean ====
section
/-! DEFINITION. Reading commands from bits. No row of spec/opcode_table.json gives bits, so `decodeTableWord` answers
none. The master ports do read requests from bits and bytes: the reading of a window's stream, the catalogue of section
10.3, the request that a code and its parameter bytes spell, and the bytes that spell a request (R166 to R168). -/

namespace Sys2Proof

/-- The command a word spells by the table's bits: the table gives no row any bits (log 17). -/
def decodeTableWord (_nbits _w : Nat) : Option Instr := none

/-! ### A window's stream (R166) -/

/-- A byte shifted in or out: the most significant bit first (R166). -/
def byteOfBits (b7 b6 b5 b4 b3 b2 b1 b0 : Bool) : Byte :=
  BitVec.ofNat 8 (128 * b7.toNat + 64 * b6.toNat + 32 * b5.toNat + 16 * b4.toNat + 8 * b3.toNat + 4 * b2.toNat +
    2 * b1.toNat + b0.toNat)

/-- The bits of a byte as they are shifted, the most significant bit first (R166). -/
def bitsOfByte (b : Byte) : List Bool := [7, 6, 5, 4, 3, 2, 1, 0].map b.getLsbD

/-- The bytes that the clocks of a window have shifted in; bits that do not fill a byte are none (R166). -/
def bytesOfBits : List Bool → List Byte
  | b7 :: b6 :: b5 :: b4 :: b3 :: b2 :: b1 :: b0 :: rest => byteOfBits b7 b6 b5 b4 b3 b2 b1 b0 :: bytesOfBits rest
  | _ => []

/-- The request in the bytes clocked in: the code, the count byte n, and exactly n parameter bytes; bytes after them are
ignored; none while the request is not complete (R166). -/
def splitRequest : List Byte → Option (Byte × List Byte)
  | code :: count :: rest => if count.toNat ≤ rest.length then some (code, rest.take count.toNat) else none
  | _ => none

/-! ### The request catalogue (section 10.3) -/

/-- The catalogue of section 10.3: the parameter count of each request code, none for a code it does not hold. -/
def catalogueCount (code : Byte) : Option Nat :=
  match code.toNat with
  | 0x10 => some 0 | 0x11 => some 1 | 0x12 => some 1 | 0x13 => some 0 | 0x14 => some 0
  | 0x15 => some 0 | 0x16 => some 0 | 0x17 => some 0 | 0x18 => some 0
  | 0x20 => some 5 | 0x21 => some 0 | 0x22 => some 0
  | 0x28 => some 0 | 0x29 => some 0
  | 0x30 => some 5 | 0x31 => some 1 | 0x32 => some 1 | 0x33 => some 3 | 0x34 => some 7 | 0x35 => some 3
  | 0x40 => some 1 | 0x41 => some 1 | 0x42 => some 12
  | 0x48 => some 2 | 0x49 => some 1
  | 0x50 => some 2 | 0x51 => some 1
  | 0x58 => some 2 | 0x59 => some 2
  | 0x7F => some 0
  | _ => none

/-- A two-byte parameter, high byte first (R168). -/
def word16 (hi lo : Byte) : BitVec 16 := hi ++ lo

/-- A four-byte parameter, high byte first (R168). -/
def word32 (b3 b2 b1 b0 : Byte) : BitVec 32 := b3 ++ b2 ++ b1 ++ b0

/-- The two bytes of a 16-bit parameter, high byte first (R168). -/
def bytes16 (v : BitVec 16) : List Byte := [v.extractLsb' 8 8, v.extractLsb' 0 8]

/-- The four bytes of a 32-bit parameter, high byte first (R168). -/
def bytes32 (v : BitVec 32) : List Byte :=
  [v.extractLsb' 24 8, v.extractLsb' 16 8, v.extractLsb' 8 8, v.extractLsb' 0 8]

/-- A request without parameters. -/
def take0 (i : Instr) : List Byte → Option Instr
  | [] => some i
  | _ => none

/-- A request with one parameter byte. -/
def take1 (f : Byte → Instr) : List Byte → Option Instr
  | [a] => some (f a)
  | _ => none

/-- A request with two parameter bytes. -/
def take2 (f : Byte → Byte → Instr) : List Byte → Option Instr
  | [a, b] => some (f a b)
  | _ => none

/-- A request with three parameter bytes. -/
def take3 (f : Byte → Byte → Byte → Instr) : List Byte → Option Instr
  | [a, b, c] => some (f a b c)
  | _ => none

/-- A request with five parameter bytes. -/
def take5 (f : Byte → Byte → Byte → Byte → Byte → Instr) : List Byte → Option Instr
  | [a, b, c, d, e] => some (f a b c d e)
  | _ => none

/-- A request with seven parameter bytes. -/
def take7 (f : Byte → Byte → Byte → Byte → Byte → Byte → Byte → Instr) : List Byte → Option Instr
  | [a, b, c, d, e, g, h] => some (f a b c d e g h)
  | _ => none

/-- A request with six parameters of two bytes each. -/
def takeWords6 (f : BitVec 16 → BitVec 16 → BitVec 16 → BitVec 16 → BitVec 16 → BitVec 16 → Instr) :
    List Byte → Option Instr
  | [a1, a0, b1, b0, c1, c0, d1, d0, e1, e0, g1, g0] =>
    some (f (word16 a1 a0) (word16 b1 b0) (word16 c1 c0) (word16 d1 d0) (word16 e1 e0) (word16 g1 g0))
  | _ => none

/-- The request that a code and its parameter bytes spell on a port at a time (R166, R168, section 10.3);
none where the code is unknown or the count wrong. -/
def requestOf (p : Port) (t : Time) (code : Byte) (params : List Byte) : Option Instr :=
  match code.toNat with
  | 0x10 => take0 (.readStatus p) params
  | 0x11 => take1 (.readConsumer p) params
  | 0x12 => take1 (.readSegment p) params
  | 0x13 => take0 (.readRound p) params
  | 0x14 => take0 (.readQueue p) params
  | 0x15 => take0 (.readMains p) params
  | 0x16 => take0 (.readPolicy p) params
  | 0x17 => take0 (.readJournal p) params
  | 0x18 => take0 (.readQuery p) params
  | 0x20 => take5 (fun f v3 v2 v1 v0 => .writePolicy p f (word32 v3 v2 v1 v0)) params
  | 0x21 => take0 (.commitPolicy p) params
  | 0x22 => take0 (.discardPolicy p) params
  | 0x28 => take0 (.start p) params
  | 0x29 => take0 (.stop p) params
  | 0x30 => take5 (.installConsumer p) params
  | 0x31 => take1 (.removeConsumer p) params
  | 0x32 => take1 (.setSegmentCount p) params
  | 0x33 => take3 (fun k hi lo => .installSegment p k (word16 hi lo)) params
  | 0x34 =>
    take7 (fun f bh bl th tl settle qualify => .setMains p f (word16 bh bl) (word16 th tl) settle qualify t) params
  | 0x35 => take3 (fun enable hi lo => .setBus p enable (word16 hi lo) t) params
  | 0x40 => take1 (.freeze p) params
  | 0x41 => take1 (.thaw p) params
  | 0x42 => takeWords6 (.headReport p) params
  | 0x48 => take2 (.hold p) params
  | 0x49 => take1 (.release p) params
  | 0x50 => take2 (.requestMove p) params
  | 0x51 => take1 (.queryUnit p) params
  | 0x58 => take2 (fun hi lo => .clearFlags p (word16 hi lo)) params
  | 0x59 => take2 (fun hi lo => .setMask p (word16 hi lo)) params
  | 0x7F => take0 (.restart p) params
  | _ => none

/-- The code and the parameter bytes that spell a request of the catalogue (section 10.3, R168);
none for a command that is no request of the catalogue. -/
def requestBytes : Instr → Option (Byte × List Byte)
  | .readStatus _ => some (0x10#8, [])
  | .readConsumer _ n => some (0x11#8, [n])
  | .readSegment _ k => some (0x12#8, [k])
  | .readRound _ => some (0x13#8, [])
  | .readQueue _ => some (0x14#8, [])
  | .readMains _ => some (0x15#8, [])
  | .readPolicy _ => some (0x16#8, [])
  | .readJournal _ => some (0x17#8, [])
  | .readQuery _ => some (0x18#8, [])
  | .writePolicy _ f v => some (0x20#8, f :: bytes32 v)
  | .commitPolicy _ => some (0x21#8, [])
  | .discardPolicy _ => some (0x22#8, [])
  | .start _ => some (0x28#8, [])
  | .stop _ => some (0x29#8, [])
  | .installConsumer _ n address segment allowed cost => some (0x30#8, [n, address, segment, allowed, cost])
  | .removeConsumer _ n => some (0x31#8, [n])
  | .setSegmentCount _ c => some (0x32#8, [c])
  | .installSegment _ k limit => some (0x33#8, k :: bytes16 limit)
  | .setMains _ f band tol settle qualify _ =>
      some (0x34#8, f :: (bytes16 band ++ (bytes16 tol ++ [settle, qualify])))
  | .setBus _ enable rate _ => some (0x35#8, enable :: bytes16 rate)
  | .freeze _ k => some (0x40#8, [k])
  | .thaw _ k => some (0x41#8, [k])
  | .headReport _ x1 y1 x2 y2 x3 y3 =>
      some (0x42#8, bytes16 x1 ++ (bytes16 y1 ++ (bytes16 x2 ++ (bytes16 y2 ++ (bytes16 x3 ++ bytes16 y3)))))
  | .hold _ n d => some (0x48#8, [n, d])
  | .release _ n => some (0x49#8, [n])
  | .requestMove _ n q => some (0x50#8, [n, q])
  | .queryUnit _ n => some (0x51#8, [n])
  | .clearFlags _ set => some (0x58#8, bytes16 set)
  | .setMask _ set => some (0x59#8, bytes16 set)
  | .restart _ => some (0x7F#8, [])
  | .powerOnReset _ | .resetnLow _ | .warmReset _ | .selectWindowClose _ _ | .unknownRequest _ _ _
  | .roundTimerExpiry | .windowExpiry | .holdExpiry | .expired | .completion | .zcPinChange _ _ _
  | .qualifyTimeExpiry _ _ | .lossExpiry _ _ | .internalTick _ | .repeatDue | .switchingWaitEnd
  | .confirmRetryDue | .issueGrant | .confirmGrant | .recheckGrant | .queryGrant | .sweepGrant
  | .requestSent _ _ | .contention _ _ | .foreignTalker _ | .quietLimit _ | .quietTimeEnd _
  | .joinWaitComplete _ | .noReply _ | .gap _ _ | .replyFailed _ _ | .state _ _ _ _ _ | .answer _ _ _
  | .selectWindowOpen _ | .frxAtSpace _ => none

/-- The bytes that spell a request in a window: code, parameter count, parameters (R166). -/
def requestStream (i : Instr) : Option (List Byte) :=
  (requestBytes i).map fun (code, params) => code :: BitVec.ofNat 8 params.length :: params

/-- The command that the bytes of a window come to: a request of the catalogue, or a request that the port answers
UNKNOWN or FORMAT; none while the request is not complete (R166, R167). -/
def windowRequest (p : Port) (t : Time) (bytes : List Byte) : Option Instr :=
  (splitRequest bytes).map fun (code, params) => (requestOf p t code params).getD (.unknownRequest p code bytes.tail)

/-- The port a request of the catalogue comes from. -/
def requestPort : Instr → Option Port
  | .readStatus p | .readConsumer p _ | .readSegment p _ | .readRound p | .readQueue p | .readMains p
  | .readPolicy p | .readJournal p | .readQuery p | .writePolicy p _ _ | .commitPolicy p | .discardPolicy p
  | .start p | .stop p | .installConsumer p _ _ _ _ _ | .removeConsumer p _ | .setSegmentCount p _
  | .installSegment p _ _ | .setMains p _ _ _ _ _ _ | .setBus p _ _ _ | .freeze p _ | .thaw p _
  | .headReport p _ _ _ _ _ _ | .hold p _ _ | .release p _ | .requestMove p _ _ | .queryUnit p _
  | .clearFlags p _ | .setMask p _ | .restart p => some p
  | _ => none

/-- The time a request of the catalogue carries; a request without one reads as `d`. -/
def requestTime (d : Time) : Instr → Time
  | .setMains _ _ _ _ _ _ t | .setBus _ _ _ t => t
  | _ => d

end Sys2Proof
end

