-- ==== Sys2Proof/Config.lean ====
section
/-! DEFINITION. Constants the rules fix for the part, and the one free value of the model. -/

namespace Sys2Proof.Config

/-- Consumer records (R1). -/
def consumers : Nat := 96

/-- Segment records (R23). -/
def segments : Nat := 8

/-- Room of the move queue (R81). -/
def queueRoom : Nat := 16

/-- Entries the journal ring holds (R159). -/
def ringRoom : Nat := 32

/-- The reply limit in microseconds (R122, R131). -/
def replyLimit : Nat := 20000

/-- One character in bit times (R121, R122). -/
def charBits : Nat := 11

/-- The inter-character gap limit in bit times (R122, R132). -/
def gapBits : Nat := 33

/-- Join wait and quiet limit in bit times (R122). -/
def joinBits : Nat := 264

/-- Quiet time after a transaction in bit times (R122). -/
def quietBits : Nat := 44

/-- Grants to other classes after which a pending SWEEP goes first (R144). -/
def starvationLimit : Nat := 6

/-- DESIGN CHOICE (log 7), a FREE VALUE: which of the mains events that one SET MAINS makes due together is
taken next. The spec says either may be taken first (R104, R106), so nothing is known of this function. -/
opaque dueChoice : Nat → Nat

end Sys2Proof.Config
end

