-- ==== Sys2Proof/Machine/State.lean ====
section
/-! DEFINITION. The state of the FJT-396 as plain data: every block's registers, tables, queues and counters, grouped
by the block that owns them (section 3 of 00_scope.md), the queue of waiting commands, and the state after POR. -/

namespace Sys2Proof.Machine

/-- A value for each phase. -/
structure PerPhase (α : Type) where
  l1 : α
  l2 : α
  l3 : α
  deriving DecidableEq, Repr

/-- A value for each master port. -/
structure PerPort (α : Type) where
  a : α
  b : α
  c : α
  deriving DecidableEq, Repr

/-- A current or a sum of currents: X and Y in dA, or x and y in ru. -/
structure Phasor where
  x : Int
  y : Int
  deriving DecidableEq, Repr

/-! ### Connection Map (01_the_connection_map.md) -/

/-- The phase states of R5, in the order in which R5 names them. -/
inductive PhaseState where
  | unknown | confirmed | moving | uncertain
  deriving DecidableEq, Repr

/-- A latest reading with its reading round (R2, R3). -/
structure Reading where
  value : Phasor
  round : RoundNo
  deriving DecidableEq, Repr

/-- A hold that stands: indefinite, or with its expiry round (R16). -/
inductive Hold where
  | indefinite
  | until (r : RoundNo)
  deriving DecidableEq, Repr

/-- The fields of a present consumer record (R2). `recorded = none` is NONE. -/
structure Consumer where
  address : Nat
  segment : Nat
  allowed : PerPhase Bool
  cost : Nat
  recorded : Option Phase
  phaseState : PhaseState
  reading : Option Reading
  frozen : Phasor
  lockout : Bool
  fault : Bool
  ops : Nat
  lastMove : Option RoundNo
  hold : Option Hold
  health : Nat
  recheck : Bool
  tried : Bool
  deriving DecidableEq, Repr

/-! ### Segment Table and Policy Store (02_segments_freezes_and_policy.md) -/

/-- A published result (R26). -/
structure SegResult where
  round : RoundNo
  neutral : Phasor
  q : Nat
  estimate : Nat
  sums : PerPhase Phasor
  magnitudes : PerPhase Nat
  overLimit : PerPhase Bool
  deriving DecidableEq, Repr

/-- A segment record: phase limit in A (R25), the placed round of its freeze (R28), its published result (R26). -/
structure Segment where
  limit : Nat
  frozenAt : Option RoundNo
  result : Option SegResult
  deriving DecidableEq, Repr

/-- The head report as stored: three phasors and the stamp (R32). -/
structure HeadReport where
  currents : PerPhase Phasor
  stamp : RoundNo
  deriving DecidableEq, Repr

/-- The Segment Table (R23): the count, the records S0 to S7, the head report. -/
structure SegTable where
  count : Nat
  segments : List Segment
  head : Option HeadReport
  deriving DecidableEq, Repr

/-- The twenty fields of a policy set (R35); `weights` holds w0 to w7. -/
structure Policy where
  roundPeriod : Nat
  movesPerRound : Nat
  gainMin : Nat
  costUnit : Nat
  weights : List Nat
  dwell : Nat
  opsLimit : Nat
  windowLength : Nat
  staleness : Nat
  queueWait : Nat
  deadTime : Nat
  headTolerance : Nat
  headAge : Nat
  deriving DecidableEq, Repr

/-- The Policy Store (R35): both sets and the commit-armed flag. -/
structure PolicyStore where
  staged : Policy
  active : Policy
  armed : Bool
  deriving DecidableEq, Repr

/-! ### Balance Engine (04_the_balancing_round.md) -/

/-- The run state (R58). -/
inductive RunState where
  | off | auto
  deriving DecidableEq, Repr

/-- The mains states of R111, in the order in which R111 names them. -/
inductive MainsState where
  | absent | settling | valid | disturbed
  deriving DecidableEq, Repr

/-- The round outcomes of R75, in the order in which R75 names them. -/
inductive RoundOutcome where
  | selected | none | deferred | mains | mismatch | off
  deriving DecidableEq, Repr

/-- The copy of a present consumer in the working set (R67). -/
structure WorkEntry where
  n : Nat
  segment : Nat
  allowed : PerPhase Bool
  cost : Nat
  recorded : Option Phase
  phaseState : PhaseState
  frozen : Phasor
  readingRound : Option RoundNo
  lockout : Bool
  fault : Bool
  held : Bool
  ops : Nat
  lastMove : Option RoundNo
  health : Nat
  deriving DecidableEq, Repr

/-- The round working set (R40, R47, R67), with the round number of its latch. `replaced` is the model's own mark: the
consumers whose records have been installed or removed since the latch (R22; log 21). -/
structure WorkingSet where
  round : RoundNo
  entries : List WorkEntry
  count : Nat
  limits : List Nat
  frozenSegs : List Bool
  head : Option HeadReport
  policy : Policy
  run : RunState
  mains : MainsState
  present : PerPhase Bool
  occupancy : Nat
  replaced : List Nat
  deriving DecidableEq, Repr

/-- The round summary (R75). -/
structure Summary where
  round : RoundNo
  outcome : RoundOutcome
  score : Nat
  examined : Nat
  posted : Nat
  withdrawn : Nat
  headStale : Bool
  residuals : Option (PerPhase Nat)
  deriving DecidableEq, Repr

/-- The Balance Engine (R58, R61, R63, R64, R47, R75). `work` is held from latch to completion: the Engine is busy
exactly then (R62). `expiryDue` is the model's own mark: a round timer expiry that waits to be taken (log 3). -/
structure Engine where
  run : RunState
  timer : Nat
  expiryDue : Bool
  round : RoundNo
  window : Nat
  work : Option WorkingSet
  summary : Option Summary
  deriving DecidableEq, Repr

/-! ### Move Queue and Executor (05_move_queue_and_execution.md) -/

/-- The origins of R80. -/
inductive Origin where
  | engine | portA | portC
  deriving DecidableEq, Repr

/-- The states of a move record (R80). -/
inductive MoveState where
  | queued | issuing | switching | confirming
  deriving DecidableEq, Repr

/-- A move record (R80). `waitEnded` marks an attempt wait that has ended and whose stage is still to move on,
`attemptDue` an attempt that is due and not yet granted (R93, R95; log 3). -/
structure MoveRecord where
  id : Seq
  consumer : Nat
  source : Phase
  target : Phase
  origin : Origin
  queuedRound : RoundNo
  state : MoveState
  issueAttempts : Nat
  confirmAttempts : Nat
  deadTime : Option Nat
  wait : Option Nat
  waitEnded : Bool
  attemptDue : Bool
  deriving DecidableEq, Repr

/-- The move queue, oldest first, and the move id counter (R81, R82). -/
structure MoveQueue where
  records : List MoveRecord
  nextId : Seq
  deriving DecidableEq, Repr

/-! ### Mains Timing Unit (06_mains_timing.md) -/

/-- A qualifier (R103) with the level of its pin and the time of the pin's last change, or of the reset. -/
structure Qualifier where
  pin : Level
  changedAt : Time
  accepted : Option Level
  candidate : Option Time
  deriving DecidableEq, Repr

/-- The causes of a last fault (R112). -/
inductive FaultCause where
  | period | spacing | reversed
  | loss (ph : Phase)
  deriving DecidableEq, Repr

/-- The last fault (R112). -/
structure LastFault where
  cause : FaultCause
  round : RoundNo
  time : Time
  deriving DecidableEq, Repr

/-- The reported figures of the last good check and its round (R115, R116). -/
structure Figures where
  period : Nat
  d2 : Nat
  d3 : Nat
  frequency : Nat
  round : RoundNo
  deriving DecidableEq, Repr

/-- The installation settings of R108; the frequency is 50 or 60, the qualify time counts 100 µs. -/
structure MainsSettings where
  frequency : Nat
  band : Nat
  tol : Nat
  settle : Nat
  qualify : Nat
  deriving DecidableEq, Repr

/-- The Mains Timing Unit (R103 to R118). A phase is PRESENT exactly while its stamp is held (R105, R106). -/
structure Mtu where
  pins : PerPhase Qualifier
  stamps : PerPhase (Option Time)
  mark2 : Bool
  mark3 : Bool
  prevL1 : Option Time
  mains : MainsState
  good : Nat
  lastFault : Option LastFault
  figures : Option Figures
  lastInternal : Time
  settings : MainsSettings
  deriving DecidableEq, Repr

/-! ### Field Bus Controller (07_field_bus_link.md) -/

/-- The bit rates of R121. -/
inductive BitRate where
  | r9600 | r19200 | r38400
  deriving DecidableEq, Repr

/-- The five classes of R143, in order of priority. -/
inductive TxnClass where
  | confirm | issue | recheck | query | sweep
  deriving DecidableEq, Repr

/-- A transaction in progress: the class granted, the consumer and unit address it was granted for, the port of a
query, the request frame as sent, and whether the record is still the one it was granted for (R142, R145; log 19). -/
structure Txn where
  cls : TxnClass
  consumer : Nat
  address : Nat
  port : Option Port
  frame : List Byte
  sameRecord : Bool
  deriving DecidableEq, Repr

/-- The levels of the field bus line (R121). -/
inductive Line where
  | mark | space
  deriving DecidableEq, Repr

/-- The bus stages of R127. AWAITING holds the end of the request (R131), RECEIVING the beginning of the reply's first
start bit, QUIET the time it was entered and the time its quiet timer last stood at 0. -/
inductive BusStage where
  | free
  | sending (txn : Txn)
  | awaiting (txn : Txn) (sentAt : Time)
  | receiving (txn : Txn) (startAt : Time)
  | quiet (enteredAt zeroAt : Time)
  deriving DecidableEq, Repr

/-- The link states of R125. JOINING holds the time at which the join timer last stood at 0 (R126). -/
inductive Link where
  | off
  | joining (zeroAt : Time)
  | online (stage : BusStage)
  deriving DecidableEq, Repr

/-- The Field Bus Controller (R121, R125, R136), with the level of the FRX pin as last told (R126, R130). -/
structure Fbc where
  enabled : Bool
  rate : BitRate
  link : Link
  contentions : Nat
  lastContention : Option RoundNo
  frx : Line
  deriving DecidableEq, Repr

/-- The failure kinds of R132, in the order in which R132 names them. -/
inductive FailKind where
  | noReply | gap | parity | framing | check | address | kind | length
  deriving DecidableEq, Repr

/-! ### Transaction Arbiter (08_bus_scheduling_and_unit_health.md) -/

/-- A phase as a unit reports it: `none` is OPEN (R123). -/
abbrev Reported := Option Phase

/-- The content of a good STATE reply (R133), X and Y already clamped. -/
structure StateReply where
  phase : Reported
  value : Phasor
  lockout : Bool
  fault : Bool
  tag : Byte
  deriving DecidableEq, Repr

/-- A stored query result (R151, R152). -/
inductive QueryResult where
  | good (consumer address : Nat) (reply : StateReply) (round : RoundNo)
  | failed (consumer address : Nat) (why : FailKind) (round : RoundNo)
  | absent (consumer : Nat) (round : RoundNo)
  deriving DecidableEq, Repr

/-- The stage of a query slot (R149). -/
inductive SlotStage where
  | idle
  | waiting (n : Nat)
  | inProgress (n : Nat)
  deriving DecidableEq, Repr

/-- A query slot (R149). -/
structure Slot where
  stage : SlotStage
  result : Option QueryResult
  deriving DecidableEq, Repr

/-- The Transaction Arbiter (R144, R146, R149). -/
structure Arbiter where
  starvation : Nat
  pointer : Nat
  sweepCount : Nat
  slots : PerPort Slot
  order : List Port
  deriving DecidableEq, Repr

/-! ### Change Journal (09_change_journal.md) -/

/-- The outcomes of a move record, in the order in which R158 names them. -/
inductive Outcome where
  | done | refused | failed | lost | expired | cancelled
  deriving DecidableEq, Repr

/-- The verdicts that end a record (R91, R158). -/
inductive Refused where
  | phase | lockout | novolt
  deriving DecidableEq, Repr

/-- The causes of an OBSERVED entry (R158). -/
inductive Cause where
  | first | external | recovered
  deriving DecidableEq, Repr

/-- The fields of a journal entry that only its kind holds (R158). -/
inductive EntryKind where
  | moveEnd (id : Seq) (origin : Origin) (outcome : Outcome) (verdict : Option Refused)
  | observed (cause : Cause)
  deriving DecidableEq, Repr

/-- A journal entry (R158); `phaseBefore = none` is NONE. -/
structure Entry where
  seq : Seq
  consumer : Nat
  phaseBefore : Option Phase
  phaseAfter : Phase
  round : RoundNo
  kind : EntryKind
  deriving DecidableEq, Repr

/-- The Change Journal: the ring, oldest first, the next sequence number, the cursors (R159, R162). -/
structure Journal where
  ring : List Entry
  next : Seq
  cursors : PerPort Seq
  deriving DecidableEq, Repr

/-! ### Master ports (10_master_ports.md) -/

/-- The nine flags, in the order of R173's bits. -/
inductive Flag where
  | round | journal | gap | mains | link | unplanned | mismatch | query | restarted
  deriving DecidableEq, Repr

/-- The select window of a port (R166, R167, R179): closed (select high), open and taking a request, open with the
request taken and its answer to be shifted out, or open but abandoned (the port waits for select to go high). -/
inductive Window where
  | closed
  | receiving
  | answered (answer : List Byte)
  | abandoned
  deriving DecidableEq, Repr

/-- A master port: flags and mask by bit (R173), and the window in hand. -/
structure PortState where
  flags : BitVec 9
  mask : BitVec 9
  window : Window
  deriving DecidableEq, Repr

/-! ### The part -/

/-- No command of this block stops it: the spec gives every command an effect or an answer in every state (log 2).
There is no reason for a fault, so the type has no constructor. -/
inductive Fault where
  deriving DecidableEq, Repr

/-- Why a command is refused by the model. -/
inductive Refusal where
  /-- Raised by no arm: every row of the table has its meaning. Safe: the model would stop. -/
  | notModelled (mnemonic : String)
  deriving DecidableEq, Repr

/-- The whole part. `held` is the hold by RESETN low (R178), `restartDue` a RESTART that waits for Port A's window to
close (R177), `freeCount` the model's counter of free values taken (log 7), `pending` the commands that wait, first
in, first out. -/
structure State where
  time : Time
  held : Bool
  restartDue : Bool
  consumers : List (Option Consumer)
  segs : SegTable
  policy : PolicyStore
  engine : Engine
  queue : MoveQueue
  mtu : Mtu
  fbc : Fbc
  arb : Arbiter
  journal : Journal
  ports : PerPort PortState
  freeCount : Nat
  pending : List Instr
  deriving DecidableEq, Repr

/-- The defaults of R35's table. -/
def Policy.default : Policy where
  roundPeriod := 1500
  movesPerRound := 1
  gainMin := 40000
  costUnit := 10000
  weights := List.replicate 8 1
  dwell := 10
  opsLimit := 6
  windowLength := 2880
  staleness := 2
  queueWait := 4
  deadTime := 4
  headTolerance := 0
  headAge := 2

/-- The defaults of R108's table. -/
def MainsSettings.default : MainsSettings where
  frequency := 50
  band := 400
  tol := 700
  settle := 50
  qualify := 10

/-- A segment record after POR (R25, R26, R28). -/
def Segment.reset : Segment := { limit := 1000, frozenAt := none, result := none }

/-- A qualifier after a reset at the time `t`, its pin at the level the outside drives (R103). -/
def Qualifier.reset (pin : Level) (t : Time) : Qualifier :=
  { pin := pin, changedAt := t, accepted := none, candidate := none }

/-- The Mains Timing Unit after POR at the time `t` (R105, R111, R112, R115, R120). -/
def Mtu.reset (zc1 zc2 zc3 : Level) (t : Time) : Mtu where
  pins := ⟨Qualifier.reset zc1 t, Qualifier.reset zc2 t, Qualifier.reset zc3 t⟩
  stamps := ⟨none, none, none⟩
  mark2 := false
  mark3 := false
  prevL1 := none
  mains := .absent
  good := 0
  lastFault := none
  figures := none
  lastInternal := t
  settings := MainsSettings.default

/-- The Transaction Arbiter after POR or warm reset (R157). -/
def Arbiter.reset : Arbiter where
  starvation := 0
  pointer := 0
  sweepCount := 0
  slots := ⟨⟨.idle, none⟩, ⟨.idle, none⟩, ⟨.idle, none⟩⟩
  order := []

/-- A port after a reset: RESTARTED alone is set and the mask is 0 (R179). -/
def PortState.reset (w : Window) : PortState := { flags := 0x100#9, mask := 0#9, window := w }

/-- The part right after POR: every block's "after POR" values. DESIGN CHOICE: the time counter stands at 0 (log 5),
the zero-crossing pins are low, every select line is high and FRX is at mark (log 6). -/
def State.reset : State where
  time := 0
  held := false
  restartDue := false
  consumers := List.replicate Config.consumers none
  segs := { count := 1, segments := List.replicate Config.segments Segment.reset, head := none }
  policy := { staged := Policy.default, active := Policy.default, armed := false }
  engine := { run := .off, timer := 0, expiryDue := false, round := 0, window := 0, work := none, summary := none }
  queue := { records := [], nextId := 0 }
  mtu := Mtu.reset .low .low .low 0
  fbc := { enabled := true, rate := .r19200, link := .joining 0, contentions := 0, lastContention := none, frx := .mark }
  arb := Arbiter.reset
  journal := { ring := [], next := 0, cursors := ⟨0, 0, 0⟩ }
  ports := ⟨PortState.reset .closed, PortState.reset .closed, PortState.reset .closed⟩
  freeCount := 0
  pending := []

end Sys2Proof.Machine
end

