-- ==== Sys2Proof/Machine/Flags.lean ====
section
/-! DEFINITION. The flags, masks and attention lines of the master ports (section 10.5, R173 to R176). -/

namespace Sys2Proof.Machine

/-- The value a port has. -/
def PerPort.get {α : Type} (v : PerPort α) : Port → α
  | .a => v.a
  | .b => v.b
  | .c => v.c

/-- Replace the value of a port. -/
def PerPort.set {α : Type} (v : PerPort α) (p : Port) (x : α) : PerPort α :=
  match p with
  | .a => { v with a := x }
  | .b => { v with b := x }
  | .c => { v with c := x }

/-- Apply a function on every port. -/
def PerPort.map {α β : Type} (f : α → β) (v : PerPort α) : PerPort β := ⟨f v.a, f v.b, f v.c⟩

/-- The bit of a flag in a flag set (R173). -/
def Flag.bit : Flag → Nat
  | .round => 0
  | .journal => 1
  | .gap => 2
  | .mains => 3
  | .link => 4
  | .unplanned => 5
  | .mismatch => 6
  | .query => 7
  | .restarted => 8

/-- The flag set that holds one flag (R168, R173). -/
def Flag.set (f : Flag) : BitVec 9 := BitVec.ofNat 9 (2 ^ f.bit)

/-- A flag set as a port receives it, sixteen bits; R168 makes a bit above 8 a RANGE error. -/
def flagsInRange (set : BitVec 16) : Bool := decide (set.toNat < 2 ^ 9)

/-- A port with a flag set; a flag already set stays set (R173). -/
def PortState.raise (q : PortState) (f : Flag) : PortState := { q with flags := q.flags ||| f.set }

/-- Set a flag on one port (R173). -/
def State.raise (s : State) (p : Port) (f : Flag) : State :=
  { s with ports := s.ports.set p ((s.ports.get p).raise f) }

/-- Set a flag on all ports (R173). -/
def State.raiseAll (s : State) (f : Flag) : State :=
  { s with ports := s.ports.map (·.raise f) }

/-- Whether a flag is set on a port. -/
def State.flagOn (s : State) (p : Port) (f : Flag) : Bool := (s.ports.get p).flags.getLsbD f.bit

/-- The attention line of a port: high while a flag that the mask includes is set (R176), low during the hold (R178). -/
def State.attention (s : State) (p : Port) : Bool :=
  !s.held && (s.ports.get p).flags &&& (s.ports.get p).mask != 0

/-- Clear the named flags of a port (R174). -/
def PortState.clear (q : PortState) (set : BitVec 16) : PortState := { q with flags := q.flags &&& ~~~(set.setWidth 9) }

/-- Set the mask of a port (R175). -/
def PortState.withMask (q : PortState) (set : BitVec 16) : PortState := { q with mask := set.setWidth 9 }

end Sys2Proof.Machine
end

