-- ==== Sys2Proof/Machine/Operands.lean ====
section
/-! DEFINITION. Parameters and answer fields as R168 codes them, the result codes of R169, and the frames and
characters of the field bus (R121, R123). -/

namespace Sys2Proof.Machine

/-- A value of a phase. -/
def PerPhase.get {α : Type} (v : PerPhase α) : Phase → α
  | .l1 => v.l1
  | .l2 => v.l2
  | .l3 => v.l3

/-- Replace the value of a phase. -/
def PerPhase.set {α : Type} (v : PerPhase α) (p : Phase) (x : α) : PerPhase α :=
  match p with
  | .l1 => { v with l1 := x }
  | .l2 => { v with l2 := x }
  | .l3 => { v with l3 := x }

/-- Apply a function on every phase. -/
def PerPhase.map {α β : Type} (f : α → β) (v : PerPhase α) : PerPhase β := ⟨f v.l1, f v.l2, f v.l3⟩

/-- The values in the order L1, L2, L3. -/
def PerPhase.toList {α : Type} (v : PerPhase α) : List α := [v.l1, v.l2, v.l3]

/-- The phases in their order (section 7 of 00_scope.md). -/
def phases : List Phase := [.l1, .l2, .l3]

/-! ### Numbers (R168) -/

/-- The low byte of a number. -/
def byteOf (n : Nat) : Byte := BitVec.ofNat 8 n

/-- A number in one byte. -/
def u1 (n : Nat) : List Byte := [byteOf n]

/-- A number in two bytes, high byte first. -/
def u2 (n : Nat) : List Byte := [byteOf (n / 2 ^ 8), byteOf n]

/-- A number in four bytes, high byte first. -/
def u4 (n : Nat) : List Byte := [byteOf (n / 2 ^ 24), byteOf (n / 2 ^ 16), byteOf (n / 2 ^ 8), byteOf n]

/-- A number in six bytes, high byte first. -/
def u6 (n : Nat) : List Byte := byteOf (n / 2 ^ 40) :: byteOf (n / 2 ^ 32) :: u4 n

/-- A signed number in two bytes, two's complement, high byte first. -/
def i2 (v : Int) : List Byte := u2 (BitVec.ofInt 16 v).toNat

/-- A signed number in four bytes, two's complement, high byte first. -/
def i4 (v : Int) : List Byte := u4 (BitVec.ofInt 32 v).toNat

/-- A yes/no field. -/
def yesNo (b : Bool) : List Byte := u1 (if b then 1 else 0)

/-- A round number or a time counter value. -/
def word4 (r : BitVec 32) : List Byte := u4 r.toNat

/-- A sequence number or a move id. -/
def word2 (r : Seq) : List Byte := u2 r.toNat

/-- An optional field: its presence byte, then the field when it is present. -/
def optField {α : Type} (f : α → List Byte) : Option α → List Byte
  | none => [0]
  | some v => 1 :: f v

/-- The two components of a reading. -/
def phasor2 (v : Phasor) : List Byte := i2 v.x ++ i2 v.y

/-- The two components of a sum. -/
def phasor4 (v : Phasor) : List Byte := i4 v.x ++ i4 v.y

/-- The phase code of R168: 1, 2, 3. -/
def phaseCode : Phase → Nat
  | .l1 => 1
  | .l2 => 2
  | .l3 => 3

/-- The phase code of a recorded or reported phase: 0 for NONE or OPEN (R168). -/
def phaseCode0 : Option Phase → Nat
  | none => 0
  | some p => phaseCode p

/-- The phase a code of R168 names; none for 0. -/
def phaseOfCode : Nat → Option Phase
  | 1 => some .l1
  | 2 => some .l2
  | 3 => some .l3
  | _ => none

/-- A set of phases: L1, L2 and L3 at bits 0, 1 and 2 (R168). -/
def phaseSetCode (v : PerPhase Bool) : Nat :=
  (if v.l1 then 1 else 0) + (if v.l2 then 2 else 0) + (if v.l3 then 4 else 0)

/-- The set of phases that the low three bits of a byte name (R168). -/
def phaseSetOf (b : Byte) : PerPhase Bool := ⟨b.getLsbD 0, b.getLsbD 1, b.getLsbD 2⟩

/-! ### Named values, by their position in the list in which the owning rule names them (R168; log 10) -/

def RunState.code : RunState → Nat
  | .off => 0
  | .auto => 1

def MainsState.code : MainsState → Nat
  | .absent => 0
  | .settling => 1
  | .valid => 2
  | .disturbed => 3

def PhaseState.code : PhaseState → Nat
  | .unknown => 0
  | .confirmed => 1
  | .moving => 2
  | .uncertain => 3

def RoundOutcome.code : RoundOutcome → Nat
  | .selected => 0
  | .none => 1
  | .deferred => 2
  | .mains => 3
  | .mismatch => 4
  | .off => 5

def Origin.code : Origin → Nat
  | .engine => 0
  | .portA => 1
  | .portC => 2

def MoveState.code : MoveState → Nat
  | .queued => 0
  | .issuing => 1
  | .switching => 2
  | .confirming => 3

def Outcome.code : Outcome → Nat
  | .done => 0
  | .refused => 1
  | .failed => 2
  | .lost => 3
  | .expired => 4
  | .cancelled => 5

def Refused.code : Refused → Nat
  | .phase => 0
  | .lockout => 1
  | .novolt => 2

def Cause.code : Cause → Nat
  | .first => 0
  | .external => 1
  | .recovered => 2

def FailKind.code : FailKind → Nat
  | .noReply => 0
  | .gap => 1
  | .parity => 2
  | .framing => 3
  | .check => 4
  | .address => 5
  | .kind => 6
  | .length => 7

def Link.code : Link → Nat
  | .off => 0
  | .joining _ => 1
  | .online _ => 2

/-- A bit rate in hundreds of bit/s, as SET BUS codes it (R137; log 10). -/
def BitRate.hundreds : BitRate → Nat
  | .r9600 => 96
  | .r19200 => 192
  | .r38400 => 384

/-- The bit rate that SET BUS names, none out of its range (R137). -/
def bitRateOf : Nat → Option BitRate
  | 96 => some .r9600
  | 192 => some .r19200
  | 384 => some .r38400
  | _ => none

/-! ### Answers (R167, R169) -/

/-- The result codes of R169. -/
inductive Result where
  | ok | unknown | format | rights | range | state | busy | held | frozen | full | absent | ineligible | conflict | empty
  deriving DecidableEq, Repr

/-- The code of a result (R169). -/
def Result.code : Result → Nat
  | .ok => 0
  | .unknown => 1
  | .format => 2
  | .rights => 3
  | .range => 4
  | .state => 5
  | .busy => 6
  | .held => 7
  | .frozen => 8
  | .full => 9
  | .absent => 10
  | .ineligible => 11
  | .conflict => 12
  | .empty => 13

/-- The result code byte and the bytes that follow it. -/
abbrev Answer := List Byte

/-- An OK answer with its fields (R169). -/
def okay (fields : List Byte) : Answer := u1 Result.ok.code ++ fields

/-- An answer other than OK carries the code alone (R169). -/
def refuse (r : Result) : Answer := u1 r.code

/-- The bytes shifted out for an answer: the length byte m first (R167). -/
def answerBytes (a : Answer) : List Byte := byteOf a.length :: a

/-! ### Characters and frames (R121, R123) -/

/-- How many ones a byte holds. -/
def ones (b : Byte) : Nat := (List.range 8).foldl (fun n i => n + (b.getLsbD i).toNat) 0

/-- A parity error: data and parity bits hold an even number of ones (R121). -/
def parityError (c : RxChar) : Bool := (ones c.data + c.parity.toNat) % 2 == 0

/-- A framing error: the stop bit is found at space (R121). -/
def framingError (c : RxChar) : Bool := !c.stopAtMark

/-- The character that sends a byte: odd parity, stop bit at mark (R121). -/
def charOf (b : Byte) : RxChar := { data := b, parity := ones b % 2 == 0, stopAtMark := true }

/-- The eleven bits of a character on the line, `true` at mark: the start bit at space, the data bits from the least
significant on, the parity bit, the stop bit (R121). -/
def lineBits (c : RxChar) : List Bool :=
  false :: ([0, 1, 2, 3, 4, 5, 6, 7].map c.data.getLsbD ++ [c.parity, c.stopAtMark])

/-- The character that eleven bits from the line are received as; none where they do not begin with a start bit
(R121). -/
def rxCharOf : List Bool → Option RxChar
  | [false, b0, b1, b2, b3, b4, b5, b6, b7, parity, stop] =>
    some { data := byteOfBits b7 b6 b5 b4 b3 b2 b1 b0, parity := parity, stopAtMark := stop }
  | _ => none

/-- For how many bit times the line has been at mark at the end of a character (R121, R126). -/
def restBits (c : RxChar) : Nat := ((lineBits c).reverse.takeWhile id).length

/-- The sum of the bytes of a frame, modulo 256. -/
def byteSum (bs : List Byte) : Byte := bs.foldl (· + ·) 0

/-- A frame with its check byte, so that all bytes sum to 0 modulo 256 (R123). -/
def withCheck (bs : List Byte) : List Byte := bs ++ [-(byteSum bs)]

/-- The POLL frame to a unit address (R123). -/
def pollFrame (address : Nat) : List Byte := withCheck [byteOf (address + 128), 0x01#8, 0#8]

/-- The MOVE frame: tag, target at bits 1:0 and expected present phase at bits 5:4, dead time (R123, R124). -/
def moveFrame (address : Nat) (tag : Byte) (target expected : Phase) (dead : Nat) : List Byte :=
  withCheck [byteOf (address + 128), 0x02#8, 3#8, tag, byteOf (phaseCode target + 16 * phaseCode expected), byteOf dead]

/-- A STATE frame from a unit (R123). -/
def stateFrame (address : Nat) (status : Byte) (x y : BitVec 16) (tag : Byte) : List Byte :=
  withCheck [byteOf address, 0x11#8, 6#8, status, x.extractLsb' 8 8, x.extractLsb' 0 8, y.extractLsb' 8 8,
    y.extractLsb' 0 8, tag]

/-- An ANSWER frame from a unit (R123). -/
def answerFrame (address : Nat) (tag verdict : Byte) : List Byte :=
  withCheck [byteOf address, 0x12#8, 2#8, tag, verdict]

/-- Clamp a value into a range. -/
def clampNat (lo hi v : Nat) : Nat := if v < lo then lo else if hi < v then hi else v

/-- Clamp a signed value to ±bound. -/
def clampInt (bound v : Int) : Int := if v < -bound then -bound else if bound < v then bound else v

end Sys2Proof.Machine
end

