-- ==== Sys2Proof/Machine/Ops.lean ====
section
/-! DEFINITION. The named operations every family shares: time, requests and their answers, consumer records, journal
entries, and the removal of move records. -/

namespace Sys2Proof.Machine

/-- One step's answer. -/
abbrev Step := Host.Outcome State Fault Refusal

/-! ### Time (log 1) -/

/-- The part at a moment of the time counter. -/
def State.at (s : State) (t : Time) : State := { s with time := t }

/-- An event of the part or of its pins: it has its effect where its condition holds and the part is not held by
RESETN (R178); elsewhere it is no event of the part and changes nothing (log 2). -/
def State.event (s : State) (cond : Bool) (effect : State → State) : State :=
  if !s.held && cond then effect s else s

/-! ### Windows and requests (R166, R167) -/

/-- The select window of a port. -/
def State.window (s : State) (p : Port) : Window := (s.ports.get p).window

/-- Set the select window of a port. -/
def State.setWindow (s : State) (p : Port) (w : Window) : State :=
  { s with ports := s.ports.set p { s.ports.get p with window := w } }

/-- A port takes a request: its window is open, no request has been taken in it, and the part is not held
(R166, R178). -/
def State.takesRequest (s : State) (p : Port) : Bool := !s.held && s.window p == .receiving

/-- A complete request: it is judged and taken, and its answer fixed, in one event (R167). Where the port takes no
request, the bytes are ignored (R166). -/
def State.request (s : State) (p : Port) (judge : State → State × Answer) : State :=
  if s.takesRequest p then
    (judge s).1.setWindow p (.answered (answerBytes (judge s).2))
  else s

/-- A read: answered OK, and nothing changes but the port's answer. -/
def State.read (s : State) (p : Port) (fields : State → List Byte) : State :=
  s.request p fun s => (s, okay (fields s))

/-- Close the window in hand without an answer: an open window is abandoned (R178, R179). -/
def Window.drop : Window → Window
  | .closed => .closed
  | _ => .abandoned

/-! ### Consumer records (R1) -/

/-- The record of a consumer number: absent or present. -/
def State.consumer? (s : State) (n : Nat) : Option Consumer := (s.consumers[n]?).join

/-- Replace the record of a consumer number. -/
def State.putConsumer (s : State) (n : Nat) (r : Option Consumer) : State :=
  { s with consumers := s.consumers.set n r }

/-- Change the record of a consumer number, if it is present. -/
def State.updateConsumer (s : State) (n : Nat) (f : Consumer → Consumer) : State :=
  match s.consumer? n with
  | some c => s.putConsumer n (some (f c))
  | none => s

/-- Change every present record. -/
def State.mapConsumers (s : State) (f : Consumer → Consumer) : State :=
  { s with consumers := s.consumers.map (Option.map f) }

/-- The present records with their numbers, in ascending order. -/
def State.present (s : State) : List (Nat × Consumer) :=
  s.consumers.zipIdx.filterMap fun (r, n) => r.map fun c => (n, c)

/-- Whether the hold stands on a record (R16). -/
def Consumer.isHeld (c : Consumer) : Bool := c.hold.isSome

/-- A record becomes CONFIRMED on a phase: it leaves the recheck set and its tried flag is cleared (R5). -/
def Consumer.confirm (c : Consumer) (p : Phase) : Consumer :=
  { c with recorded := some p, phaseState := .confirmed, recheck := false, tried := false }

/-- A record becomes UNCERTAIN on its recorded phase and enters the recheck set with its tried flag clear (R7, R11). -/
def Consumer.lose (c : Consumer) : Consumer :=
  { c with phaseState := .uncertain, recheck := true, tried := false }

/-- A contactor operation counts: the window ops count rises, not above 63, and the last-move round is set (R4). -/
def Consumer.wear (c : Consumer) (r : RoundNo) : Consumer :=
  { c with ops := min 63 (c.ops + 1), lastMove := some r }

/-- A segment is frozen for a consumer there: some frozen segment is at or below it (R30). -/
def frozenAt (frozen : List Bool) (segment : Nat) : Bool := (frozen.take (segment + 1)).any id

/-- Which segments are frozen (R28). -/
def SegTable.frozenSet (t : SegTable) : List Bool := t.segments.map (·.frozenAt.isSome)

/-- A consumer of this segment is frozen now (R30). -/
def State.isFrozen (s : State) (segment : Nat) : Bool := frozenAt s.segs.frozenSet segment

/-! ### The change journal (R159 to R162) -/

/-- An eviction: the oldest entry goes, and every port whose cursor carries its number moves on and is told by GAP
(R161). -/
def State.evict (s : State) : State :=
  match s.journal.ring with
  | [] => s
  | e :: rest =>
    let passed (p : Port) : Bool := s.journal.cursors.get p == e.seq
    let move (p : Port) : Seq := if passed p then e.seq + 1 else s.journal.cursors.get p
    let tell (p : Port) : PortState := if passed p then (s.ports.get p).raise .gap else s.ports.get p
    { s with
      journal := { s.journal with ring := rest, cursors := ⟨move .a, move .b, move .c⟩ }
      ports := ⟨tell .a, tell .b, tell .c⟩ }

/-- Append an entry with the next sequence number, and raise JOURNAL on all ports (R160, steps 2 to 4). -/
def State.append (s : State) (consumer : Nat) (phaseBefore : Option Phase) (phaseAfter : Phase) (kind : EntryKind) :
    State :=
  let entry : Entry :=
    { seq := s.journal.next, consumer := consumer, phaseBefore := phaseBefore, phaseAfter := phaseAfter,
      round := s.engine.round, kind := kind }
  { s with journal := { s.journal with ring := s.journal.ring ++ [entry], next := s.journal.next + 1 } }.raiseAll
    .journal

/-- Write one journal entry (R160). -/
def State.writeEntry (s : State) (consumer : Nat) (phaseBefore : Option Phase) (phaseAfter : Phase)
    (kind : EntryKind) : State :=
  (if Config.ringRoom ≤ s.journal.ring.length then s.evict else s).append consumer phaseBefore phaseAfter kind

/-- The map's OBSERVED entry; EXTERNAL raises UNPLANNED on all ports (R10). -/
def State.writeObserved (s : State) (n : Nat) (phaseBefore : Option Phase) (phaseAfter : Phase) (cause : Cause) :
    State :=
  let s := s.writeEntry n phaseBefore phaseAfter (.observed cause)
  if cause = .external then s.raiseAll .unplanned else s

/-- The Executor's MOVE_END entry: the move as planned (R98, R158). -/
def State.writeMoveEnd (s : State) (r : MoveRecord) (outcome : Outcome) (verdict : Option Refused) : State :=
  s.writeEntry r.consumer (some r.source) r.target (.moveEnd r.id r.origin outcome verdict)

/-- MOVE_END entries of records removed while QUEUED, oldest first (R99). -/
def State.writeRemoved (s : State) (rs : List MoveRecord) (outcome : Outcome) : State :=
  rs.foldl (fun s r => s.writeMoveEnd r outcome none) s

/-! ### Removal of queued records (R87, R99) -/

/-- Replace the records of the queue. -/
def State.withRecords (s : State) (rs : List MoveRecord) : State :=
  { s with queue := { s.queue with records := rs } }

/-- A QUEUED record whose consumer is CONFIRMED on a phase other than the record's source (R87). -/
def State.offSource (s : State) (r : MoveRecord) : Bool :=
  r.state == .queued &&
    match s.consumer? r.consumer with
    | some c => c.phaseState == .confirmed && c.recorded != some r.source
    | none => false

/-- Judge the head of the queue, and each new head in turn: a head found off its source ends CANCELLED (R87, R99). -/
def State.settleHead (s : State) : State :=
  (s.withRecords (s.queue.records.dropWhile s.offSource)).writeRemoved
    (s.queue.records.takeWhile s.offSource) .cancelled

/-- One event removes every QUEUED record that it names, with one outcome; the batch goes first, and the record that
is then the head is judged after it (R99). -/
def State.removeQueued (s : State) (which : MoveRecord → Bool) (outcome : Outcome) : State :=
  let goes (r : MoveRecord) : Bool := r.state == .queued && which r
  ((s.withRecords (s.queue.records.filter fun r => !goes r)).writeRemoved (s.queue.records.filter goes)
    outcome).settleHead

/-- Some record of the queue names the consumer (R20, R21, R72, R83). -/
def State.named (s : State) (n : Nat) : Bool := s.queue.records.any (·.consumer == n)

/-- The state of a record in flight (R5, R81). -/
def MoveState.inFlight : MoveState → Bool
  | .queued => false
  | _ => true

/-- Append a new record at the tail, with the next move id (R72, R82, R84). -/
def State.makeMove (s : State) (n : Nat) (source target : Phase) (origin : Origin) (round : RoundNo) : State :=
  let r : MoveRecord :=
    { id := s.queue.nextId, consumer := n, source := source, target := target, origin := origin,
      queuedRound := round, state := .queued, issueAttempts := 0, confirmAttempts := 0, deadTime := none,
      wait := none, waitEnded := false, attemptDue := false }
  { s with queue := { records := s.queue.records ++ [r], nextId := s.queue.nextId + 1 } }

end Sys2Proof.Machine
end

