-- ==== Sys2Proof/Machine/Executor.lean ====
section
/-! DEFINITION. The Executor (05_move_queue_and_execution.md, sections 5.3 to 5.7): issue, switching, confirmation,
outcomes, and the commands REPEAT_DUE, SWITCHING_WAIT_END and CONFIRM_RETRY_DUE. -/

namespace Sys2Proof.Machine

/-! ### The head record -/

/-- The head of the queue (R81). -/
def State.headMove (s : State) : Option MoveRecord := s.queue.records.head?

/-- Replace the head record. -/
def State.putHead (s : State) (r : MoveRecord) : State := s.withRecords (r :: s.queue.records.tail)

/-- A transaction is in progress (R127). -/
def State.txn? (s : State) : Option Txn :=
  match s.fbc.link with
  | .online (.sending t) => some t
  | .online (.awaiting t _) => some t
  | .online (.receiving t _) => some t
  | _ => none

/-- A transaction of this class is in progress. -/
def State.running (s : State) (c : TxnClass) : Bool :=
  match s.txn? with
  | some t => t.cls == c
  | none => false

/-- The link is ONLINE (R125). -/
def State.online (s : State) : Bool :=
  match s.fbc.link with
  | .online _ => true
  | _ => false

/-! ### Switching and confirmation stages (R92, R94, R95, R97) -/

/-- The switching wait: ceil(dead time / 2) + 6 cycle ticks (R94). -/
def switchingWait (dead : Nat) : Nat := (dead + 1) / 2 + 6

/-- A record enters SWITCHING with its switching wait set (R94). -/
def MoveRecord.toSwitching (r : MoveRecord) : MoveRecord :=
  { r with state := .switching, wait := some (switchingWait (r.deadTime.getD 0)), waitEnded := false,
           attemptDue := false }

/-- A record becomes CONFIRMING with its first CONFIRM due (R94). -/
def MoveRecord.toConfirming (r : MoveRecord) : MoveRecord :=
  { r with state := .confirming, wait := none, waitEnded := false, attemptDue := true }

/-- An attempt of the record is due (R93, R95, R97). -/
def MoveRecord.due (r : MoveRecord) : MoveRecord := { r with wait := none, waitEnded := false, attemptDue := true }

/-- A wait of some cycle ticks begins (R92, R97). -/
def MoveRecord.waiting (r : MoveRecord) (ticks : Nat) : MoveRecord :=
  { r with wait := some ticks, waitEnded := false, attemptDue := false }

/-- The mains state is VALID (R86). -/
def State.mainsValid (s : State) : Bool := s.mtu.mains == .valid

/-- A failed MOVE attempt: a wait of 2 before the repeat, or SWITCHING where no repeat may follow (R92). -/
def State.attemptFailed (s : State) (r : MoveRecord) : State :=
  s.putHead (if decide (r.issueAttempts < 3) && s.mainsValid then r.waiting 2 else r.toSwitching)

/-- The mains leaves VALID: a record in ISSUING that has no attempt running goes to SWITCHING (R93, R114). -/
def State.mainsLeftValid (s : State) : State :=
  match s.headMove with
  | some r => if r.state = .issuing && !s.running .issue then s.putHead r.toSwitching else s
  | none => s

/-- Whether a repeat follows or the record goes to SWITCHING, as the mains stands (R93). -/
def State.repeatOrSwitch (s : State) (r : MoveRecord) : State :=
  s.putHead (if s.mainsValid then r.due else r.toSwitching)

/-! ### Ends of a record in flight (R98) -/

/-- The end of the head record: it is removed, its MOVE_END entry written, the map follows, an OBSERVED entry comes
after, and the next head is judged (R98, R99). -/
def State.endMove (s : State) (r : MoveRecord) (outcome : Outcome) (verdict : Option Refused)
    (map : Consumer → Consumer) (found : Option Phase) : State :=
  let s := (s.withRecords s.queue.records.tail).writeMoveEnd r outcome verdict
  let s := s.updateConsumer r.consumer map
  let s := match found with
    | some p => s.writeObserved r.consumer (some r.source) p .external
    | none => s
  s.settleHead

/-- The unit is seen on a phase: DONE on the target, FAILED on the source or the third phase (R11, R96). -/
def State.confirmed (s : State) (r : MoveRecord) (p : Phase) : State :=
  if p = r.target then
    s.endMove r .done none (fun c => (c.confirm r.target).wear s.engine.round) none
  else if p = r.source then s.endMove r .failed none (·.confirm r.source) none
  else s.endMove r .failed none (·.confirm p) (some p)

/-- The record is given up: LOST (R11, R97). -/
def State.lost (s : State) (r : MoveRecord) : State :=
  s.endMove r .lost none (fun c => c.lose.wear s.engine.round) none

/-- A CONFIRM attempt gave no phase: the next one after five cycle ticks, or LOST after the third (R97). -/
def State.confirmFailed (s : State) (r : MoveRecord) : State :=
  if r.confirmAttempts < 3 then s.putHead (r.waiting 5) else s.lost r

/-- The unit refuses with LOCKOUT, NOVOLT, or PHASE and the phase it reports (R12, R91). -/
def State.refusedMove (s : State) (r : MoveRecord) (v : Refused) (reported : Reported) : State :=
  match v, reported with
  | .lockout, _ => s.endMove r .refused (some .lockout) (fun c => { c.confirm r.source with lockout := true }) none
  | .novolt, _ => s.endMove r .refused (some .novolt) (·.confirm r.source) none
  | .phase, none => s.endMove r .refused (some .phase) Consumer.lose none
  | .phase, some p =>
    s.endMove r .refused (some .phase) (·.confirm p) (if p = r.source then none else some p)

/-- The verdict codes of an ANSWER (R123); the FBC lets no other code pass (R132). -/
inductive Verdict where
  | accept | busy
  | refuses (v : Refused)
  deriving DecidableEq, Repr

/-- The verdict a code names (R123). -/
def verdictOf : Nat → Option Verdict
  | 1 => some .accept
  | 2 => some (.refuses .phase)
  | 3 => some (.refuses .lockout)
  | 4 => some (.refuses .novolt)
  | 5 => some .busy
  | _ => none

/-- The tag of a record: the low 8 bits of its move id (R82). -/
def MoveRecord.tag (r : MoveRecord) : Byte := r.id.setWidth 8

/-- The Executor on an ANSWER with the record's tag (R90 to R92). -/
def State.moveAnswered (s : State) (r : MoveRecord) (v : Verdict) (reported : Reported) : State :=
  match v with
  | .accept => s.putHead r.toSwitching
  | .busy => s.attemptFailed r
  | .refuses w => s.refusedMove r w reported

/-! ### The cycle tick's share (R80) -/

/-- A cycle tick on a record: an attempt wait falls by 1, and at 0 it is absent and has ended (R80). -/
def MoveRecord.tick (r : MoveRecord) : MoveRecord :=
  match r.wait with
  | some n => if n ≤ 1 then { r with wait := none, waitEnded := true } else { r with wait := some (n - 1) }
  | none => r

/-! ### Commands -/

/-- The head record when it stands in a state and its attempt wait has ended. -/
def State.headEnded (s : State) (st : MoveState) : Option MoveRecord :=
  match s.headMove with
  | some r => if r.state = st && r.waitEnded then some r else none
  | none => none

/-- REPEAT_DUE: the repeat becomes due, or the record goes to SWITCHING where the mains is not VALID (R93). -/
def execRepeatDue (s : State) : Step :=
  .next (match s.headEnded .issuing with
    | some r => s.event true fun s => s.repeatOrSwitch r
    | none => s)

/-- SWITCHING_WAIT_END: the record becomes CONFIRMING with its first CONFIRM due (R94). -/
def execSwitchingWaitEnd (s : State) : Step :=
  .next (match s.headEnded .switching with
    | some r => s.event true fun s => s.putHead r.toConfirming
    | none => s)

/-- CONFIRM_RETRY_DUE: the next confirm attempt becomes due (R97). -/
def execConfirmRetryDue (s : State) : Step :=
  .next (match s.headEnded .confirming with
    | some r => s.event true fun s => s.putHead r.due
    | none => s)

end Sys2Proof.Machine
end

