-- ==== Sys2Proof/Machine/Arbiter.lean ====
section
/-! DEFINITION. The Transaction Arbiter (08_bus_scheduling_and_unit_health.md): class pendings, grants, results, the
sweep, unit health, the polls' effect on the map (R3, R6 to R9), and the grant commands. -/

namespace Sys2Proof.Machine

/-! ### Health (R154, R155) -/

/-- The health levels of R155, in the order in which R155 names them. -/
inductive HealthLevel where
  | good | suspect | silent
  deriving DecidableEq, Repr

/-- The level of a score (R155). -/
def healthLevel (score : Nat) : HealthLevel :=
  if score ≤ 39 then .good else if score ≤ 119 then .suspect else .silent

def HealthLevel.code : HealthLevel → Nat
  | .good => 0
  | .suspect => 1
  | .silent => 2

/-- The score after a result that is GOOD, or FAILED (R154). -/
def scoreAfter (good : Bool) (score : Nat) : Nat := if good then score - 1 else min 160 (score + 4)

/-- A level change that raises LINK: into SILENT, or from SUSPECT back into GOOD (R155). -/
def linkChange (before after : HealthLevel) : Bool :=
  (before == .suspect && after == .silent) || (before == .suspect && after == .good)

/-- A result's effect on the health score of a record (R145 step 2, R154, R155). -/
def State.scoreHealth (s : State) (n : Nat) (good : Bool) : State :=
  match s.consumer? n with
  | some c =>
    let score := scoreAfter good c.health
    let s := s.putConsumer n (some { c with health := score })
    if linkChange (healthLevel c.health) (healthLevel score) then s.raiseAll .link else s
  | none => s

/-! ### A good STATE reply on the map (R3, R6 to R10) -/

/-- The reading and the status of a reply (R3). -/
def Consumer.takeReading (c : Consumer) (r : StateReply) (round : RoundNo) : Consumer :=
  { c with reading := some ⟨r.value, round⟩, lockout := r.lockout, fault := r.fault }

/-- A good STATE reply is applied to a record: its reading and status, then its phase by the record's phase state
(R3, R6 to R9); a QUEUED head of this consumer found off its source is cancelled after it (R87). -/
def State.applyReply (s : State) (n : Nat) (r : StateReply) : State :=
  match s.consumer? n with
  | none => s
  | some c =>
    let c' := c.takeReading r s.engine.round
    let put (c : Consumer) : State := s.putConsumer n (some c)
    (match c.phaseState, r.phase with
      | .unknown, some p => (put (c'.confirm p)).writeObserved n none p .first
      | .unknown, none => put c'
      | .confirmed, some p =>
        if c.recorded = some p then put c' else (put (c'.confirm p)).writeObserved n c.recorded p .external
      | .confirmed, none => put c'.lose
      | .moving, _ => put c'
      | .uncertain, some p =>
        if c.recorded = some p then put (c'.confirm p)
        else (put (c'.confirm p)).writeObserved n c.recorded p .recovered
      | .uncertain, none => put c').settleHead

/-! ### Class pendings (R143) -/

/-- An untried member of the recheck set (R143). -/
def Consumer.untried (c : Consumer) : Bool := c.recheck && !c.tried

/-- The lowest-numbered untried member of the recheck set (R148). -/
def State.recheckTarget (s : State) : Option (Nat × Consumer) := s.present.find? fun (_, c) => c.untried

/-- A record qualifies for the current sweep (R146). -/
def State.qualifies (s : State) (c : Consumer) : Bool :=
  !c.recheck && (healthLevel c.health != .silent || s.arb.sweepCount == 0)

/-- The lowest-numbered qualifying record at or above the pointer (R146). -/
def State.sweepCandidate (s : State) : Option (Nat × Consumer) :=
  s.present.find? fun (n, c) => decide (s.arb.pointer ≤ n) && s.qualifies c

/-- The sweep target: none while an untried member of the recheck set stands (R146). -/
def State.sweepTarget (s : State) : Option (Nat × Consumer) :=
  if s.recheckTarget.isSome then none else s.sweepCandidate

/-- The head record is ready to issue, but for the link (R86). -/
def State.readyToIssue (s : State) (r : MoveRecord) : Bool :=
  r.state == .queued && s.mainsValid &&
    match s.consumer? r.consumer with
    | some c => c.phaseState == .confirmed && c.recorded == some r.source
    | none => false

/-- A repeat of the record in ISSUING is due (R93). -/
def State.repeatPending (s : State) (r : MoveRecord) : Bool :=
  r.state == .issuing && r.attemptDue && s.mainsValid

/-- ISSUE is pending, and for which record (R86, R93, R143). -/
def State.issuePending (s : State) : Option MoveRecord :=
  if s.online then s.headMove.filter fun r => s.readyToIssue r || s.repeatPending r else none

/-- CONFIRM is pending, and for which record (R95, R143). -/
def State.confirmPending (s : State) : Option MoveRecord :=
  if s.online then s.headMove.filter fun r => r.state == .confirming && r.attemptDue else none

/-- QUERY is pending, and for which port and consumer: the oldest WAITING query (R143, R151). -/
def State.queryPending (s : State) : Option (Port × Nat) :=
  match s.arb.order with
  | p :: _ =>
    match (s.arb.slots.get p).stage with
    | .waiting n => some (p, n)
    | _ => none
  | [] => none

/-- The class pending (R143). -/
def State.pendingClass (s : State) : TxnClass → Bool
  | .confirm => s.confirmPending.isSome
  | .issue => s.issuePending.isSome
  | .recheck => s.recheckTarget.isSome
  | .query => s.queryPending.isSome
  | .sweep => s.sweepTarget.isSome

/-- The pending class of highest priority (R143). -/
def State.byPriority (s : State) : Option TxnClass :=
  [TxnClass.confirm, .issue, .recheck, .query, .sweep].find? s.pendingClass

/-- The class the Arbiter grants: the pending class of highest priority, but SWEEP when it is pending and the
starvation count has reached its limit (R143, R144). -/
def State.choice (s : State) : Option TxnClass :=
  if s.pendingClass .sweep && decide (Config.starvationLimit ≤ s.arb.starvation) then some .sweep else s.byPriority

/-- The link is ONLINE with the bus FREE: a grant may be made (R142). -/
def State.busFree (s : State) : Bool := s.fbc.link == .online .free

/-- A class may be granted now: the bus is FREE and the Arbiter's choice is this class (R142 to R144). -/
def State.grants (s : State) (c : TxnClass) : Bool := s.busFree && s.choice == some c

/-- The starvation count after a grant to a class (R144). -/
def State.starvationAfter (s : State) (c : TxnClass) : Nat :=
  if c = .sweep then 0 else if s.pendingClass .sweep then s.arb.starvation + 1 else 0

/-- The Arbiter's and the FBC's share of a grant: the starvation count is kept, and the FBC begins to send (R128,
R142, R144). -/
def State.begin (s : State) (t : Txn) : State :=
  { s with
    arb := { s.arb with starvation := s.starvationAfter t.cls }
    fbc := { s.fbc with link := .online (.sending t) } }

/-- The unit address of a consumer record as it stands (R142). -/
def State.addressOf (s : State) (n : Nat) : Nat := ((s.consumer? n).map (·.address)).getD 0

/-- A poll granted to a class for a consumer (R124, R142). -/
def State.poll (s : State) (cls : TxnClass) (n : Nat) (port : Option Port) : Txn :=
  { cls := cls, consumer := n, address := s.addressOf n, port := port, frame := pollFrame (s.addressOf n),
    sameRecord := true }

/-- The record at its ISSUE grant: its first attempt takes the active dead time, a repeat keeps it (R88, R93). -/
def State.issuedRecord (s : State) (r : MoveRecord) : MoveRecord :=
  if r.state = .queued then
    { r with state := .issuing, deadTime := some s.policy.active.deadTime, issueAttempts := 1 }
  else { r with issueAttempts := r.issueAttempts + 1, attemptDue := false }

/-- The MOVE transaction of a record (R88, R124). -/
def State.moveTxn (s : State) (r : MoveRecord) : Txn :=
  { cls := .issue, consumer := r.consumer, address := s.addressOf r.consumer, port := none,
    frame := moveFrame (s.addressOf r.consumer) r.tag r.target r.source (r.deadTime.getD 0), sameRecord := true }

/-- ISSUE_GRANT: the record becomes ISSUING with its consumer MOVING, and a MOVE frame is sent; a repeat sends the same
frame again (R88, R93). -/
def State.grantIssue (s : State) (r : MoveRecord) : State :=
  let r' := s.issuedRecord r
  ((s.begin (s.moveTxn r')).putHead r').updateConsumer r.consumer fun c => { c with phaseState := .moving }

/-- CONFIRM_GRANT: the confirm attempts rise by 1 and the consumer's unit is polled (R95). -/
def State.grantConfirm (s : State) (r : MoveRecord) : State :=
  (s.begin (s.poll .confirm r.consumer none)).putHead
    { r with confirmAttempts := r.confirmAttempts + 1, attemptDue := false }

/-- RECHECK_GRANT: the member is polled and its tried flag set (R148). -/
def State.grantRecheck (s : State) (n : Nat) : State :=
  (s.begin (s.poll .recheck n none)).updateConsumer n fun c => { c with tried := true }

/-- Set the query slot of a port. -/
def State.putSlot (s : State) (p : Port) (slot : Slot) : State :=
  { s with arb := { s.arb with slots := s.arb.slots.set p slot } }

/-- QUERY_GRANT: the slot becomes IN PROGRESS, the port leaves the arrival order, the unit is polled (R151). -/
def State.grantQuery (s : State) (p : Port) (n : Nat) : State :=
  let s := (s.begin (s.poll .query n (some p))).putSlot p { s.arb.slots.get p with stage := .inProgress n }
  { s with arb := { s.arb with order := s.arb.order.tail } }

/-- SWEEP_GRANT: the target is polled and the pointer passes it (R146). -/
def State.grantSweep (s : State) (n : Nat) : State :=
  let s := s.begin (s.poll .sweep n none)
  { s with arb := { s.arb with pointer := n + 1 } }

/-! ### Queries (R150 to R152) -/

/-- A query completes: its result is stored, its slot becomes IDLE, QUERY is raised on its port (R151, R152). -/
def State.completeQuery (s : State) (p : Port) (r : QueryResult) : State :=
  (s.putSlot p { stage := .idle, result := some r }).raise p .query

/-- An abandoned query: back to the head of the arrival order, or completed ABSENT when its record is gone (R151,
R152). -/
def State.queryAbandoned (s : State) (p : Port) (n : Nat) : State :=
  if (s.consumer? n).isNone then s.completeQuery p (.absent n s.engine.round)
  else
    let s := s.putSlot p { s.arb.slots.get p with stage := .waiting n }
    { s with arb := { s.arb with order := p :: s.arb.order } }

/-! ### What a result does (R145) -/

/-- Why a transaction was abandoned: contention while it was sent, or new settings (R129, R135, R138). -/
inductive AbandonCause where
  | contended | settings
  deriving DecidableEq, Repr

/-- The result of a transaction (R135). -/
inductive TxnResult where
  | state (r : StateReply)
  | answer (tag : Byte) (v : Verdict) (reported : Reported)
  | failed (k : FailKind)
  | abandoned (cause : AbandonCause)
  deriving DecidableEq, Repr

/-- An ANSWER whose tag is not the record's tag, which is treated as failed (R92, R145). -/
def State.foreignTag (s : State) (tag : Byte) : Bool :=
  match s.headMove with
  | some r => r.tag != tag
  | none => true

/-- Whether a result counts as GOOD, as FAILED, or not at all for the unit's health (R145 step 2, R154). -/
def State.resultHealth (s : State) : TxnResult → Option Bool
  | .state _ => some true
  | .answer tag _ _ => some (!s.foreignTag tag)
  | .failed _ => some false
  | .abandoned _ => none

/-- An ABANDONED transaction, whatever the cause (R135). -/
def TxnResult.isAbandoned : TxnResult → Bool
  | .abandoned _ => true
  | _ => false

/-- Step 1 of R145: the record is still the one the transaction was granted for. -/
def State.sameRecord (s : State) (t : Txn) : Bool := t.sameRecord && (s.consumer? t.consumer).isSome

/-- Steps 2 and 3 of R145: health, then the map. -/
def State.resultOnRecord (s : State) (t : Txn) (res : TxnResult) : State :=
  if s.sameRecord t then
    let s := match s.resultHealth res with
      | some good => s.scoreHealth t.consumer good
      | none => s
    match res with
    | .state r => s.applyReply t.consumer r
    | _ => s
  else s

/-- Step 4 for ISSUE: the Executor on the result of a MOVE attempt (R90 to R93). A contended attempt is not counted. -/
def State.issueResult (s : State) (r : MoveRecord) : TxnResult → State
  | .answer tag v reported => if r.tag = tag then s.moveAnswered r v reported else s.attemptFailed r
  | .abandoned _ => s.repeatOrSwitch { r with issueAttempts := r.issueAttempts - 1 }
  | _ => s.attemptFailed r

/-- Step 4 for CONFIRM: the Executor on the result of a confirm poll (R95 to R97). -/
def State.confirmResult (s : State) (r : MoveRecord) : TxnResult → State
  | .state { phase := some p, .. } => s.confirmed r p
  | .abandoned _ => s.putHead { r with confirmAttempts := r.confirmAttempts - 1 }.due
  | _ => s.confirmFailed r

/-- Step 4 for QUERY (R151, R152). -/
def State.queryResult (s : State) (t : Txn) (p : Port) : TxnResult → State
  | .state r => s.completeQuery p (.good t.consumer t.address r s.engine.round)
  | .failed k => s.completeQuery p (.failed t.consumer t.address k s.engine.round)
  | .abandoned _ => s.queryAbandoned p t.consumer
  | .answer _ _ _ => s

/-- Step 4 of R145: the class that was granted (R90 to R97, R147, R148, R151). -/
def State.resultOnClass (s : State) (t : Txn) (res : TxnResult) : State :=
  match t.cls with
  | .issue =>
    match s.headMove with
    | some r => if r.state = .issuing then s.issueResult r res else s
    | none => s
  | .confirm =>
    match s.headMove with
    | some r => if r.state = .confirming then s.confirmResult r res else s
    | none => s
  | .recheck =>
    if res.isAbandoned then s.updateConsumer t.consumer fun c => { c with tried := false } else s
  | .query =>
    match t.port with
    | some p => s.queryResult t p res
    | none => s
  | .sweep =>
    if res.isAbandoned then { s with arb := { s.arb with pointer := t.consumer } } else s

/-- The result of a transaction is handed to the Arbiter and applied in order (R145). -/
def State.result (s : State) (t : Txn) (res : TxnResult) : State := (s.resultOnRecord t res).resultOnClass t res

/-- The record of a consumer is installed or removed while a round is in hand (R22; log 21). -/
def Engine.markReplaced (e : Engine) (n : Nat) : Engine :=
  { e with work := e.work.map fun w => { w with replaced := w.replaced.insert n } }

/-- The record of a consumer is installed or removed: a transaction in progress for it no longer reaches it (R3), nor does
the move of a round in hand (R22). -/
def State.markReplaced (s : State) (n : Nat) : State :=
  let mark (t : Txn) : Txn := if t.consumer = n then { t with sameRecord := false } else t
  let link := match s.fbc.link with
    | .online (.sending t) => Link.online (.sending (mark t))
    | .online (.awaiting t a) => .online (.awaiting (mark t) a)
    | .online (.receiving t b) => .online (.receiving (mark t) b)
    | l => l
  { s with fbc := { s.fbc with link := link }, engine := s.engine.markReplaced n }

/-! ### The end of a sweep (R147) -/

/-- A cycle tick ends the sweep when no qualifying record stands at or above the pointer and no SWEEP transaction is
in progress (R147). -/
def State.sweepEnd (s : State) : State :=
  if s.sweepCandidate.isNone && !s.running .sweep then
    { s with arb := { s.arb with sweepCount := (s.arb.sweepCount + 1) % 8, pointer := 0 } }
  else s

/-! ### Commands -/

/-- ISSUE_GRANT (R88, R93). -/
def execIssueGrant (s : State) : Step :=
  .next (match s.issuePending with
    | some r => s.event (s.grants .issue) fun s => s.grantIssue r
    | none => s)

/-- CONFIRM_GRANT (R95). -/
def execConfirmGrant (s : State) : Step :=
  .next (match s.confirmPending with
    | some r => s.event (s.grants .confirm) fun s => s.grantConfirm r
    | none => s)

/-- RECHECK_GRANT (R148). -/
def execRecheckGrant (s : State) : Step :=
  .next (match s.recheckTarget with
    | some (n, _) => s.event (s.grants .recheck) fun s => s.grantRecheck n
    | none => s)

/-- QUERY_GRANT (R151). -/
def execQueryGrant (s : State) : Step :=
  .next (match s.queryPending with
    | some (p, n) => s.event (s.grants .query) fun s => s.grantQuery p n
    | none => s)

/-- SWEEP_GRANT (R146). -/
def execSweepGrant (s : State) : Step :=
  .next (match s.sweepTarget with
    | some (n, _) => s.event (s.grants .sweep) fun s => s.grantSweep n
    | none => s)

/-- QUERY_UNIT: the port's slot becomes WAITING and the port joins the arrival order (R150). -/
def execQueryUnit (p : Port) (n : Byte) (s : State) : Step :=
  .next (s.request p fun s =>
    if Config.consumers ≤ n.toNat then (s, refuse .range)
    else if (s.consumer? n.toNat).isNone then (s, refuse .absent)
    else if (s.arb.slots.get p).stage ≠ .idle then (s, refuse .busy)
    else
      let s := s.putSlot p { s.arb.slots.get p with stage := .waiting n.toNat }
      ({ s with arb := { s.arb with order := s.arb.order ++ [p] } }, okay []))

/-- The stage of a slot and its consumer number as READ QUERY carries them (R153, R168). -/
def SlotStage.fields : SlotStage → List Byte
  | .idle => u1 0 ++ [0]
  | .waiting n => u1 1 ++ (1 :: u1 n)
  | .inProgress n => u1 2 ++ (1 :: u1 n)

/-- A query result as READ QUERY carries it: its kind, then the fields of R151 and R152 (log 10). -/
def QueryResult.fields : QueryResult → List Byte
  | .good n a r round =>
    u1 0 ++ u1 n ++ u1 a ++ u1 (phaseCode0 r.phase) ++ phasor2 r.value ++ yesNo r.lockout ++ yesNo r.fault ++ [r.tag]
      ++ word4 round
  | .failed n a k round => u1 1 ++ u1 n ++ u1 a ++ u1 k.code ++ word4 round
  | .absent n round => u1 2 ++ u1 n ++ word4 round

/-- READ_QUERY: the port's own slot (R153). -/
def execReadQuery (p : Port) (s : State) : Step :=
  .next (s.read p fun s => (s.arb.slots.get p).stage.fields ++ optField QueryResult.fields (s.arb.slots.get p).result)

end Sys2Proof.Machine
end

