-- ==== Sys2Proof/Machine/Bus.lean ====
section
/-! DEFINITION. The Field Bus Controller (07_field_bus_link.md): bit-time intervals, the echo check, the reply tests, link
states and bus stages, and the commands of the field bus, with SET_BUS. -/

namespace Sys2Proof.Machine

/-! ### Intervals (R122; log 15) -/

/-- At least this many bit times of the rate in force lie between two moments: µs × bit/s against bits × 10^6 (R122). -/
def bitsPassed (rate : BitRate) (bits : Nat) (now start : Time) : Bool :=
  decide (bits * 10000 ≤ since now start * rate.hundreds)

/-- The moment that lies some bit times before another, in whole microseconds (R122). -/
def bitsBefore (rate : BitRate) (bits : Nat) (t : Time) : Time := t - BitVec.ofNat 32 (bits * 10000 / rate.hundreds)

/-- Of the characters that begin at these moments, each begins within the inter-character gap limit after the end of the
one before it (R122, R132). -/
def gapFree (rate : BitRate) : List Time → Bool
  | c :: d :: cs =>
    decide (since d c * rate.hundreds ≤ (Config.charBits + Config.gapBits) * 10000) && gapFree rate (d :: cs)
  | _ => true

/-- The gap limit passes after the stop bit of the last character (R122, R132). -/
def gapPassed (rate : BitRate) (chars : List RxAt) (now : Time) : Bool :=
  match chars.getLast? with
  | some c => bitsPassed rate (Config.charBits + Config.gapBits) now c.start
  | none => false

/-- In QUIET, the quiet timer that last stood at 0 at `zeroAt` reaches its 44 bit times within the 264 bit times of the
quiet limit (R127, R130). -/
def settlesInTime (rate : BitRate) (enteredAt zeroAt : Time) : Bool :=
  decide (since zeroAt enteredAt * rate.hundreds + Config.quietBits * 10000 ≤ Config.joinBits * 10000)

/-! ### The echo check (R128) -/

/-- The echo of a character is good: present, without error, and carrying the byte that was sent (R128). -/
def echoGood (sent : Byte) (echo : Option RxChar) : Bool :=
  match echo with
  | some c => !parityError c && !framingError c && c.data == sent
  | none => false

/-- The echo of every character of the request is good (R128). -/
def echoesGood : List Byte → List (Option RxChar) → Bool
  | [], [] => true
  | b :: bs, e :: es => echoGood b e && echoesGood bs es
  | _, _ => false

/-- Some character of the request has been echoed badly (R128). -/
def echoBad : List Byte → List (Option RxChar) → Bool
  | b :: bs, e :: es => !echoGood b e || echoBad bs es
  | _, _ => false

/-! ### The reply tests (R132) -/

/-- What the reply tests make of the characters received so far; `overrun` where a character before the last has settled
the reply, and the others have fallen in QUIET (R127, R132). -/
inductive Reply where
  | incomplete
  | failed (k : FailKind)
  | good (bytes : List Byte)
  | overrun
  deriving DecidableEq, Repr

/-- What a reply must be: the plain unit address, and STATE or ANSWER (R132). -/
structure Expected where
  address : Byte
  isMove : Bool
  deriving DecidableEq, Repr

/-- The kind byte expected (R132). -/
def Expected.kindByte (e : Expected) : Byte := if e.isMove then 0x12#8 else 0x11#8

/-- The length byte expected (R132). -/
def Expected.lengthByte (e : Expected) : Byte := if e.isMove then 2#8 else 6#8

/-- The position of the check byte: 5 in an ANSWER, 9 in a STATE (R123). -/
def Expected.last (e : Expected) : Nat := if e.isMove then 5 else 9

/-- The test of the byte at a position, with the sum of the bytes up to it (R132). -/
def byteTest (e : Expected) (i : Nat) (b sum : Byte) : Option FailKind :=
  if i = 0 then if b = e.address then none else some .address
  else if i = 1 then if b = e.kindByte then none else some .kind
  else if i = 2 then if b = e.lengthByte then none else some .length
  else if i = e.last then if sum = 0 then none else some .check
  else if e.isMove ∧ i = 4 then if (verdictOf (b.toNat % 16)).isSome then none else some .kind
  else none

/-- The tests of one character: the character tests give the kind before the byte test (R132). -/
def charTest (e : Expected) (i : Nat) (c : RxChar) (sum : Byte) : Option FailKind :=
  if parityError c then some .parity
  else if framingError c then some .framing
  else byteTest e i c.data sum

/-- The reply judged character by character: `i` characters and the bytes `got` (last first) stand, their sum is `sum`
(R132). -/
def judgeFrom (e : Expected) : List RxChar → Nat → Byte → List Byte → Reply
  | [], _, _, _ => .incomplete
  | c :: cs, i, sum, got =>
    match charTest e i c (sum + c.data) with
    | some k => if cs.isEmpty then .failed k else .overrun
    | none =>
      if i = e.last then if cs.isEmpty then .good (got.reverse ++ [c.data]) else .overrun
      else judgeFrom e cs (i + 1) (sum + c.data) (c.data :: got)

/-- The reply tests on the characters of a reply (R132). -/
def judge (e : Expected) (cs : List RxChar) : Reply := judgeFrom e cs 0 0 []

/-- What the reply of a transaction must be (R132). -/
def Txn.expects (t : Txn) : Expected := { address := byteOf t.address, isMove := t.cls == .issue }

/-- A two's complement reading byte pair, clamped to ±1000 dA (R123, R133). -/
def readingOf (hi lo : Byte) : Int := clampInt 1000 (hi ++ lo).toInt

/-- A good STATE reply decoded (R123, R133). -/
def decodeState : List Byte → Option StateReply
  | [_, _, _, status, xh, xl, yh, yl, tag, _] =>
    some { phase := phaseOfCode (status.toNat % 4), value := ⟨readingOf xh xl, readingOf yh yl⟩,
           lockout := status.getLsbD 4, fault := status.getLsbD 5, tag := tag }
  | _ => none

/-- A good ANSWER reply decoded: tag, verdict, present phase (R123, R134). -/
def decodeAnswer : List Byte → Option TxnResult
  | [_, _, _, tag, verdict, _] =>
    (verdictOf (verdict.toNat % 16)).map fun v => .answer tag v (phaseOfCode (verdict.toNat / 16 % 4))
  | _ => none

/-- The result that a judged reply gives a transaction in the event of its last character; none where that character
does not settle it (R132 to R135). -/
def replyResult (t : Txn) (cs : List RxChar) : Option TxnResult :=
  match judge t.expects cs with
  | .incomplete | .overrun => none
  | .failed k => some (.failed k)
  | .good bytes => if t.cls = .issue then decodeAnswer bytes else (decodeState bytes).map .state

/-! ### Link and stage changes (R125 to R130) -/

/-- Replace the link state. -/
def State.putLink (s : State) (l : Link) : State := { s with fbc := { s.fbc with link := l } }

/-- Set the level of the FRX pin. -/
def State.setFrx (s : State) (l : Line) : State := { s with fbc := { s.fbc with frx := l } }

/-- The level of the line at a bit: `true` is mark (R121). -/
def lineAt (bit : Bool) : Line := if bit then .mark else .space

/-- The level at which a reply's characters leave the line: that of the last stop bit (R121). -/
def lineAfter (cs : List RxChar) : Line := lineAt ((cs.getLast?.map (·.stopAtMark)).getD true)

/-- Contention: it is counted, not above 65535, its round is kept, and the link is JOINING with the join wait begun, the
join timer at 0 at the time `zero` (R129, R130, R136). -/
def State.contendAt (s : State) (zero : Time) : State :=
  { s with fbc := { s.fbc with
      contentions := min 65535 (s.fbc.contentions + 1), lastContention := some s.engine.round,
      link := .joining zero } }

/-- Contention detected now (R129, R130). -/
def State.contend (s : State) : State := s.contendAt s.time

/-- The transaction whose reply begins at a time: in AWAITING within the reply limit (R131), in RECEIVING the reply whose
first start bit began then (R127). -/
def State.replyFrom (s : State) (start : Time) : Option Txn :=
  match s.fbc.link with
  | .online (.awaiting t a) => if since start a ≤ Config.replyLimit then some t else none
  | .online (.receiving t b) => if start = b then some t else none
  | _ => none

/-- A transaction ends GOOD or FAILED: the stage becomes QUIET and the result is handed on (R127, R135). -/
def State.endTxn (s : State) (t : Txn) (res : TxnResult) : State :=
  (s.putLink (.online (.quiet s.time s.time))).result t res

/-- FRX at space up to the moment `m` where no reply is taken: it restarts the join wait and the quiet time, and in FREE
it is a foreign talker (R126, R127, R130; log 13). -/
def State.spaceAt (s : State) (m : Time) : State :=
  match s.fbc.link with
  | .joining _ => s.putLink (.joining m)
  | .online .free => s.contendAt m
  | .online (.quiet e _) => s.putLink (.online (.quiet e m))
  | _ => s

/-- Characters on FRX while no transaction is in progress are activity on the line, which is at space for the last time
before their last bits at mark (R126, R127, R130; log 13). -/
def State.hear (s : State) (cs : List RxChar) : State :=
  match cs.getLast? with
  | some c => (s.spaceAt (bitsBefore s.fbc.rate (restBits c) s.time)).setFrx (lineAfter cs)
  | none => s

/-- Characters on FRX from the time `start` on, with no gap between them (`fits`): where a transaction takes them as its
reply and the last of them settles it, it ends with the result; where no transaction is in progress they are activity on
the line (R126, R127, R131, R132; log 12). -/
def State.receive (s : State) (start : Time) (fits : Bool) (cs : List RxChar) : State :=
  match s.replyFrom start with
  | some t =>
    match fits, replyResult t cs with
    | true, some res => (s.setFrx (lineAfter cs)).endTxn t res
    | _, _ => s
  | none => if s.txn?.isSome then s else s.hear cs

/-- A SET BUS cuts off a transaction in progress: it is ABANDONED with cause SETTINGS (R135, R138). -/
def State.cutOff (s : State) (l : Link) : State :=
  match s.txn? with
  | some t => (s.putLink l).result t (.abandoned .settings)
  | none => s.putLink l

/-! ### Commands -/

/-- REQUEST_SENT: every echo is good; the stage becomes AWAITING, the reply limit starts, and the line is at the mark of the
last stop bit (R128). -/
def State.requestSent (s : State) (echo : List (Option RxChar)) : State :=
  match s.fbc.link with
  | .online (.sending t) => if echoesGood t.frame echo then (s.setFrx .mark).putLink (.online (.awaiting t s.time)) else s
  | _ => s

/-- REQUEST_SENT (R128). -/
def execRequestSent (echo : List (Option RxChar)) (t : Time) (s : State) : Step :=
  .next ((s.at t).event true fun s => s.requestSent echo)

/-- The level at which an echo leaves the line: its stop bit's; a missing echo is a line at mark (R128). -/
def lineAfterEcho (echo : List (Option RxChar)) : Line := lineAt ((echo.getLast?.join.map (·.stopAtMark)).getD true)

/-- CONTENTION during SENDING: the transaction is ABANDONED with cause CONTENDED (R129, R135). -/
def State.contendSending (s : State) (echo : List (Option RxChar)) : State :=
  match s.fbc.link with
  | .online (.sending t) => if echoBad t.frame echo then (s.setFrx (lineAfterEcho echo)).contend.result t (.abandoned .contended) else s
  | _ => s

/-- CONTENTION (R129). -/
def execContention (echo : List (Option RxChar)) (t : Time) (s : State) : Step :=
  .next ((s.at t).event true fun s => s.contendSending echo)

/-- FOREIGN_TALKER: FRX at space while the bus is FREE (R130). -/
def execForeignTalker (t : Time) (s : State) : Step :=
  .next ((s.at t).event s.busFree State.contend)

/-- The quiet limit is reached and the line has not settled: it is at space, or the quiet timer began too late (R130). -/
def State.quietLimitReached (s : State) : Bool :=
  match s.fbc.link with
  | .online (.quiet e z) =>
    bitsPassed s.fbc.rate Config.joinBits s.time e && (s.fbc.frx == .space || !settlesInTime s.fbc.rate e z)
  | _ => false

/-- QUIET_LIMIT (R130). -/
def execQuietLimit (t : Time) (s : State) : Step :=
  .next ((s.at t).event (s.at t).quietLimitReached State.contend)

/-- The quiet timer, which runs while FRX is at mark, reaches 44 bit times (R127). -/
def State.quietEnded (s : State) : Bool :=
  match s.fbc.link with
  | .online (.quiet e z) =>
    s.fbc.frx == .mark && bitsPassed s.fbc.rate Config.quietBits s.time z && settlesInTime s.fbc.rate e z
  | _ => false

/-- QUIET_TIME_END (R127). -/
def execQuietTimeEnd (t : Time) (s : State) : Step :=
  .next ((s.at t).event (s.at t).quietEnded fun s => s.putLink (.online .free))

/-- The join timer, which runs while FRX is at mark, reaches 264 bit times (R126). -/
def State.joined (s : State) : Bool :=
  match s.fbc.link with
  | .joining z => s.fbc.frx == .mark && bitsPassed s.fbc.rate Config.joinBits s.time z
  | _ => false

/-- JOIN_WAIT_COMPLETE (R126). -/
def execJoinWaitComplete (t : Time) (s : State) : Step :=
  .next ((s.at t).event (s.at t).joined fun s => s.putLink (.online .free))

/-- NO_REPLY: no start bit has come within 20,000 µs of the request (R131). -/
def State.noReply (s : State) : State :=
  match s.fbc.link with
  | .online (.awaiting t a) =>
    if Config.replyLimit ≤ since s.time a then s.endTxn t (.failed .noReply) else s
  | _ => s

/-- NO_REPLY (R131). -/
def execNoReply (t : Time) (s : State) : Step := .next ((s.at t).event true State.noReply)

/-- GAP: after at least one character, none of which fails a test or completes the reply, the next does not begin within
33 bit times of the last one's stop bit (R132). -/
def State.gapAfter (s : State) (chars : List RxAt) : State :=
  match chars with
  | [] => s
  | c :: _ =>
    match s.replyFrom c.start with
    | some t =>
      if gapFree s.fbc.rate (chars.map (·.start)) && gapPassed s.fbc.rate chars s.time
          && judge t.expects (chars.map (·.char)) == .incomplete then
        (s.setFrx .mark).endTxn t (.failed .gap)
      else s
    | none => s

/-- GAP (R132). -/
def execGap (chars : List RxAt) (t : Time) (s : State) : Step :=
  .next ((s.at t).event true fun s => s.gapAfter chars)

/-- The characters of a reply, each with its own beginning (R132). -/
def State.receiveAt (s : State) (chars : List RxAt) : State :=
  match chars with
  | [] => s
  | c :: _ => s.receive c.start (gapFree s.fbc.rate (chars.map (·.start))) (chars.map (·.char))

/-- REPLY_FAILED: the characters that arrive fail a test at the last of them (R132). -/
def execReplyFailed (chars : List RxAt) (t : Time) (s : State) : Step :=
  .next ((s.at t).event true fun s => s.receiveAt chars)

/-- A whole frame of the unit that the transaction taking it addresses: `frame` of that address, every character without
error, its characters beginning at the moments `starts` (R132). DESIGN CHOICE (log 13): where no transaction takes it, the
frame on the line is that of address 0. -/
def State.receiveFrame (s : State) (starts : List Time) (frame : Nat → List Byte) : State :=
  match starts with
  | [] => s
  | start :: _ =>
    let bytes := frame (((s.replyFrom start).map (·.address)).getD 0)
    s.receive start (starts.length == bytes.length && gapFree s.fbc.rate starts) (bytes.map charOf)

/-- STATE: a STATE frame of the addressed unit arrives whole and without error (R133). -/
def execState (status : Byte) (x y : BitVec 16) (tag : Byte) (t : FrameTime) (s : State) : Step :=
  .next ((s.at t.finish).event true fun s =>
    s.receiveFrame t.starts fun a => stateFrame a status x y tag)

/-- ANSWER: an ANSWER frame of the addressed unit arrives whole and without error (R134). -/
def execAnswer (tag verdict : Byte) (t : FrameTime) (s : State) : Step :=
  .next ((s.at t.finish).event true fun s =>
    s.receiveFrame t.starts fun a => answerFrame a tag verdict)

/-- FRX at space now: in AWAITING, within the reply limit, it is the start bit of the reply (R127, R131); elsewhere activity
on the line (R126, R127, R130). -/
def State.spaceNow (s : State) : State :=
  match s.fbc.link with
  | .online (.awaiting t a) =>
    if since s.time a ≤ Config.replyLimit then s.putLink (.online (.receiving t s.time)) else s
  | _ => s.spaceAt s.time

/-- FRX_AT_SPACE: the pin is at space, where it stays or from where it returns to mark; a part that is held only sees its
pin move (R126, R178; log 13). -/
def execFrxAtSpace (t : SpaceAt) (s : State) : Step :=
  .next (((s.at t.time).event true State.spaceNow).setFrx (lineAt !t.stays))

/-- The link state that new settings leave (R125, R137). -/
def State.linkAfter (s : State) (enable : Bool) (rate : BitRate) : Option Link :=
  if !enable then if s.fbc.enabled then some .off else none
  else if !s.fbc.enabled || rate != s.fbc.rate then some (.joining s.time)
  else none

/-- New bus settings are stored, and the link follows (R125, R137, R138). -/
def State.changeBus (s : State) (enable : Bool) (rate : BitRate) : State :=
  let s' := { s with fbc := { s.fbc with enabled := enable, rate := rate } }
  match s.linkAfter enable rate with
  | some l => s'.cutOff l
  | none => s'

/-- The settings and the link state as SET BUS answers them (R137). -/
def Fbc.settingFields (f : Fbc) : List Byte := yesNo f.enabled ++ u2 f.rate.hundreds ++ u1 f.link.code

/-- A record is in flight (R137). -/
def State.moveInFlight (s : State) : Bool := s.queue.records.any (·.state.inFlight)

/-- SET_BUS (R137, R138). -/
def execSetBus (p : Port) (enable : Byte) (rate : BitVec 16) (t : Time) (s : State) : Step :=
  .next ((s.at t).request p fun s =>
    if p = .b then (s, refuse .rights)
    else
      match decide (enable.toNat ≤ 1), bitRateOf rate.toNat with
      | true, some r =>
        if s.engine.run = .auto then (s, refuse .state)
        else if s.moveInFlight then (s, refuse .busy)
        else
          let s := s.changeBus (enable.toNat == 1) r
          (s, okay s.fbc.settingFields)
      | _, _ => (s, refuse .range))

/-! ### The pins FDE and FTX (R121, R125, R128) -/

/-- FDE: raised while the part sends (R128). -/
def State.fde (s : State) : Bool :=
  !s.held &&
    match s.fbc.link with
    | .online (.sending _) => true
    | _ => false

/-- What FTX carries from a grant on, bit time by bit time, `true` at mark: one bit time at rest, then the characters of the
request one after another (R121, R128). -/
def Txn.bits (t : Txn) : List Bool := true :: t.frame.flatMap fun b => lineBits (charOf b)

/-- FTX, `k` bit times after the grant while the part sends; at mark before and after the request, and wherever nothing is
sent, OFF among it (R121, R125, R128). -/
def State.ftx (s : State) (k : Nat) : Bool :=
  match s.held, s.fbc.link with
  | false, .online (.sending t) => t.bits.getD k true
  | _, _ => true

end Sys2Proof.Machine
end

