-- ==== Sys2Proof/Machine/Mains.lean ====
section
/-! DEFINITION. The Mains Timing Unit (06_mains_timing.md): qualifiers, presence, the cycle check, the mains state, the
cycle tick, and the commands ZC_PIN_CHANGE, QUALIFY_TIME_EXPIRY, LOSS_EXPIRY, INTERNAL_TICK, SET_MAINS, READ_MAINS. -/

namespace Sys2Proof.Machine

/-! ### Settings and presence (R105, R106, R108) -/

/-- The nominal period in µs (R108). -/
def MainsSettings.nominal (m : MainsSettings) : Nat := if m.frequency = 60 then 16667 else 20000

/-- The qualify time in µs (R104). -/
def MainsSettings.qualifyTime (m : MainsSettings) : Nat := m.qualify * 100

/-- A phase is PRESENT while its stamp is held (R105, R106). -/
def Mtu.phasePresent (m : Mtu) (p : Phase) : Bool := (m.stamps.get p).isSome

/-- The cycle tick source: the lowest-numbered PRESENT phase; none is INTERNAL (R117). -/
def Mtu.source (m : Mtu) : Option Phase := phases.find? m.phasePresent

/-! ### The cycle tick (R117, R147) -/

/-- One cycle tick on the round timer: at the round period the timer expires and its count returns to 0 (R61). An
expiry that comes while the Engine is busy is not taken, then or later (R62). -/
def Engine.tick (e : Engine) (period : Nat) : Engine :=
  if period ≤ e.timer + 1 then { e with timer := 0, expiryDue := e.expiryDue || e.work.isNone }
  else { e with timer := e.timer + 1 }

/-- A cycle tick: the round timer, every attempt wait, and the end of a sweep (R61, R80, R147). -/
def State.cycleTick (s : State) : State :=
  { s with
    engine := s.engine.tick s.policy.active.roundPeriod
    queue := { s.queue with records := s.queue.records.map MoveRecord.tick } }.sweepEnd

/-! ### The mains state (R111 to R114) -/

/-- Bring the mains state and the good count to new values; a change of state raises MAINS on all ports and is seen by
the Executor (R114). -/
def State.setMainsState (s : State) (st : MainsState) (good : Nat) : State :=
  let s' := { s with mtu := { s.mtu with mains := st, good := good } }
  if st = s.mtu.mains then s'
  else
    let s' := s'.raiseAll .mains
    if s.mtu.mains = .valid then s'.mainsLeftValid else s'

/-- The verdicts of a cycle check (R109). -/
inductive CycleVerdict where
  | good
  | bad (cause : FaultCause)
  deriving DecidableEq, Repr

/-- A verdict on the mains state and the good count (R113). -/
def State.mainsVerdict (s : State) (v : CycleVerdict) : State :=
  match s.mtu.mains, v with
  | .settling, .good =>
    let n := min 255 (s.mtu.good + 1)
    s.setMainsState (if s.mtu.settings.settle ≤ n then .valid else .settling) n
  | .settling, .bad _ => s.setMainsState .settling 0
  | .valid, .good => s
  | .valid, .bad _ => s.setMainsState .disturbed 0
  | .disturbed, .good => s.setMainsState .settling 1
  | .disturbed, .bad _ => s.setMainsState .disturbed 0
  | .absent, _ => s

/-- The loss of a phase on the mains state, its stamp already absent (R113). -/
def State.mainsLoss (s : State) : State :=
  let last := s.mtu.source.isNone
  match s.mtu.mains with
  | .settling => s.setMainsState (if last then .absent else .settling) 0
  | .valid => s.setMainsState .disturbed 0
  | .disturbed => s.setMainsState (if last then .absent else .disturbed) 0
  | .absent => s

/-- A phase becomes PRESENT (R113). -/
def State.mainsReturn (s : State) : State :=
  if s.mtu.mains = .absent then s.setMainsState .settling 0 else s

/-- Record the last fault (R112). -/
def State.recordFault (s : State) (c : FaultCause) : State :=
  { s with mtu := { s.mtu with lastFault := some ⟨c, s.engine.round, s.time⟩ } }

/-! ### The cycle check (R109, R115) -/

/-- The distance of two numbers. -/
def dist (a b : Nat) : Nat := (a - b) + (b - a)

/-- The verdict on a period and its two spacings, absent where the mark is clear (R109). -/
def cycleVerdict (m : MainsSettings) (period : Nat) (d2 d3 : Option Nat) : CycleVerdict :=
  if m.band < dist period m.nominal then .bad .period
  else
    match d2, d3 with
    | some d2, some d3 =>
      if dist (3 * d2) period ≤ 3 * m.tol ∧ dist (3 * d3) (2 * period) ≤ 3 * m.tol then .good
      else if dist (3 * d2) (2 * period) ≤ 3 * m.tol ∧ dist (3 * d3) period ≤ 3 * m.tol then .bad .reversed
      else .bad .spacing
    | _, _ => .bad .spacing

/-- The frequency in centihertz, a half rounded up (R115). -/
def centihertz (period : Nat) : Nat := (200000000 + period) / (2 * period)

/-- A phase's distance from the previous L1 stamp, if its mark is set (R109). -/
def spacing (mark : Bool) (stamp : Option Time) (old : Time) : Option Nat :=
  if mark then stamp.map (since · old) else none

/-- The cycle check of an accepted L1 rising edge with its stamp; none is made where no previous L1 stamp is held.
Afterwards the stamp is the previous one and the marks are clear (R109; log 8). -/
def State.cycleCheck (s : State) (stamp : Time) : State :=
  let s := match s.mtu.prevL1 with
    | none => s
    | some old =>
      let period := since stamp old
      let d2 := spacing s.mtu.mark2 s.mtu.stamps.l2 old
      let d3 := spacing s.mtu.mark3 s.mtu.stamps.l3 old
      match cycleVerdict s.mtu.settings period d2 d3 with
      | .good =>
        { s with mtu := { s.mtu with
            figures := some ⟨period, d2.getD 0, d3.getD 0, centihertz period, s.engine.round⟩ } }.mainsVerdict .good
      | .bad c => (s.recordFault c).mainsVerdict (.bad c)
  { s with mtu := { s.mtu with prevL1 := some stamp, mark2 := false, mark3 := false } }

/-! ### Edges, losses and ticks as events (R103, R105, R106, R117, R118) -/

/-- The stamp of an accepted rising edge, and the mark of L2 or L3 (R105). -/
def Mtu.stamped (m : Mtu) (p : Phase) (stamp : Time) : Mtu :=
  { m with
    stamps := m.stamps.set p (some stamp)
    mark2 := if p = .l2 then true else m.mark2
    mark3 := if p = .l3 then true else m.mark3 }

/-- An accepted rising edge: stamp and presence, the mains state on a return, the cycle check of L1, then the cycle
tick if the phase is the source (R105, R109, R113, R114, R117). -/
def State.risingEdge (s : State) (p : Phase) (stamp : Time) : State :=
  let s := { s with mtu := s.mtu.stamped p stamp }.mainsReturn
  let s := if p = .l1 then s.cycleCheck stamp else s
  if s.mtu.source = some p then s.cycleTick else s

/-- Replace the qualifier of a phase. -/
def State.putPin (s : State) (p : Phase) (q : Qualifier) : State :=
  { s with mtu := { s.mtu with pins := s.mtu.pins.set p q } }

/-- The level other than a level. -/
def Level.flip : Level → Level
  | .low => .high
  | .high => .low

/-- The pin has held its level for the qualify time: from the candidate, or while the accepted level is undetermined
from the pin's last change or the reset (R103). -/
def State.qualifyReached (s : State) (p : Phase) : Bool :=
  let q := s.mtu.pins.get p
  match q.accepted, q.candidate with
  | none, _ => decide (s.mtu.settings.qualifyTime ≤ since s.time q.changedAt)
  | some _, some c => decide (s.mtu.settings.qualifyTime ≤ since s.time c)
  | some _, none => false

/-- A level is accepted: a first level is no edge; LOW to HIGH is a rising edge with the candidate as its stamp
(R103, R104). -/
def State.acceptLevel (s : State) (p : Phase) : State :=
  let q := s.mtu.pins.get p
  match q.accepted, q.candidate with
  | none, _ => s.putPin p { q with accepted := some q.pin, candidate := none }
  | some .low, some c => (s.putPin p { q with accepted := some .high, candidate := none }).risingEdge p c
  | some .high, some _ => s.putPin p { q with accepted := some .low, candidate := none }
  | some _, none => s

/-- The loss limit of a phase is reached: three nominal periods since its stamp (R106). -/
def State.lossReached (s : State) (p : Phase) : Bool :=
  match s.mtu.stamps.get p with
  | some st => decide (3 * s.mtu.settings.nominal ≤ since s.time st)
  | none => false

/-- A phase becomes LOST: stamp and mark go, for L1 the previous stamp too (R106). -/
def Mtu.lose (m : Mtu) (p : Phase) : Mtu :=
  { m with
    stamps := m.stamps.set p none
    mark2 := if p = .l2 then false else m.mark2
    mark3 := if p = .l3 then false else m.mark3
    prevL1 := if p = .l1 then none else m.prevL1 }

/-- The loss expiry of a phase: LOST, last fault LOSS, the mains state, and with the last phase the internal ticks
begin (R106, R112, R113, R118). -/
def State.losePhase (s : State) (p : Phase) : State :=
  let s := ({ s with mtu := s.mtu.lose p }.recordFault (.loss p)).mainsLoss
  if s.mtu.source.isNone then { s with mtu := { s.mtu with lastInternal := s.time } } else s

/-- An internal tick is due: the source is INTERNAL and a nominal period has passed since the last one (R118). -/
def State.internalReached (s : State) : Bool :=
  s.mtu.source.isNone && decide (s.mtu.settings.nominal ≤ since s.time s.mtu.lastInternal)

/-- An internal tick is delivered (R118). -/
def State.tickInternal (s : State) : State :=
  { s with mtu := { s.mtu with lastInternal := s.time } }.cycleTick

/-! ### What a change of settings makes due (R104, R106, R118, R119) -/

/-- A mains event that a change of settings may make due at once. -/
inductive MainsDue where
  | accept (p : Phase)
  | loss (p : Phase)
  | tick
  deriving DecidableEq, Repr

/-- The event is due now. -/
def State.mainsDue (s : State) : MainsDue → Bool
  | .accept p => s.qualifyReached p
  | .loss p => s.lossReached p
  | .tick => s.internalReached

/-- Take a due event; one that an event before it has made not due is not taken. -/
def State.takeDue (s : State) (d : MainsDue) : State :=
  if s.mainsDue d then
    match d with
    | .accept p => s.acceptLevel p
    | .loss p => s.losePhase p
    | .tick => s.tickInternal
  else s

/-- Take the due events one at a time. Of two or more the spec lets either be taken first: the free value
`Config.dueChoice` picks the next (log 7). `fuel` is the number of events. -/
def State.takeAll : Nat → State → List MainsDue → State
  | 0, s, _ => s
  | _ + 1, s, [] => s
  | _ + 1, s, [d] => s.takeDue d
  | fuel + 1, s, d :: e :: ds =>
    let all := d :: e :: ds
    let i := Config.dueChoice s.freeCount % all.length
    State.takeAll fuel ({ s with freeCount := s.freeCount + 1 }.takeDue (all.getD i d)) (all.eraseIdx i)

/-- The events that new settings make due: acceptances by a new qualify time, losses and an internal tick by a new
nominal frequency (R104, R106, R118). -/
def State.dueAfter (s : State) (old : MainsSettings) : List MainsDue :=
  ((if s.mtu.settings.qualify ≠ old.qualify then phases.map MainsDue.accept else []) ++
    (if s.mtu.settings.frequency ≠ old.frequency then phases.map MainsDue.loss ++ [MainsDue.tick] else [])).filter
    s.mainsDue

/-- New settings are stored, and what they make due happens in the same event (R119). -/
def State.changeMains (s : State) (m : MainsSettings) : State :=
  let s' := { s with mtu := { s.mtu with settings := m } }
  s'.takeAll (s'.dueAfter s.mtu.settings).length (s'.dueAfter s.mtu.settings)

/-! ### Commands -/

/-- ZC_PIN_CHANGE: away from the accepted level the candidate is set, back to it the candidate is dropped (R103).
During the hold the pin moves and the MTU does nothing (R178). -/
def State.pinChange (s : State) (p : Phase) (level : Level) : State :=
  let q := s.mtu.pins.get p
  if q.pin = level then s
  else if s.held then s.putPin p { q with pin := level, changedAt := s.time }
  else
    s.putPin p { q with
      pin := level, changedAt := s.time,
      candidate := match q.accepted with
        | some a => if a = level then none else some s.time
        | none => none }

/-- ZC_PIN_CHANGE (R103). -/
def execZcPinChange (ph : Phase) (level : Level) (t : Time) (s : State) : Step := .next ((s.at t).pinChange ph level)

/-- QUALIFY_TIME_EXPIRY (R103 to R105, R109, R113, R117). -/
def execQualifyTimeExpiry (ph : Phase) (t : Time) (s : State) : Step :=
  .next ((s.at t).event ((s.at t).qualifyReached ph) fun s => s.acceptLevel ph)

/-- LOSS_EXPIRY (R106). -/
def execLossExpiry (ph : Phase) (t : Time) (s : State) : Step :=
  .next ((s.at t).event ((s.at t).lossReached ph) fun s => s.losePhase ph)

/-- INTERNAL_TICK (R118). -/
def execInternalTick (t : Time) (s : State) : Step :=
  .next ((s.at t).event (s.at t).internalReached fun s => s.tickInternal)

/-- The settings as SET MAINS answers them and READ MAINS carries them (R116, R119). -/
def MainsSettings.fields (m : MainsSettings) : List Byte :=
  u1 m.frequency ++ u2 m.band ++ u2 m.tol ++ u1 m.settle ++ u1 m.qualify

/-- The settings are in the ranges of R119. -/
def MainsSettings.inRange (m : MainsSettings) : Bool :=
  decide ((m.frequency = 50 ∨ m.frequency = 60) ∧ (100 ≤ m.band ∧ m.band ≤ 2000) ∧ (200 ≤ m.tol ∧ m.tol ≤ 2000) ∧
    (8 ≤ m.settle ∧ m.settle ≤ 255) ∧ (1 ≤ m.qualify ∧ m.qualify ≤ 31))

/-- SET_MAINS: the five settings are written together (R119). -/
def execSetMains (p : Port) (frequency : Byte) (band tol : BitVec 16) (settle qualify : Byte) (t : Time) (s : State) :
    Step :=
  let m : MainsSettings :=
    { frequency := frequency.toNat, band := band.toNat, tol := tol.toNat, settle := settle.toNat,
      qualify := qualify.toNat }
  .next ((s.at t).request p fun s =>
    if p = .b then (s, refuse .rights)
    else if !m.inRange then (s, refuse .range)
    else if s.engine.run = .auto then (s, refuse .state)
    else if m = s.mtu.settings then (s, okay m.fields)
    else (s.changeMains m, okay m.fields))

/-- The last fault as READ MAINS carries it: the cause, for LOSS the phase, the round, the time (R112, R116). -/
def LastFault.fields (f : LastFault) : List Byte :=
  (match f.cause with
    | .period => u1 0
    | .spacing => u1 1
    | .reversed => u1 2
    | .loss p => u1 3 ++ u1 (phaseCode p)) ++ word4 f.round ++ word4 f.time

/-- The reported figures (R115, R116). -/
def Figures.fields (f : Figures) : List Byte :=
  u2 f.period ++ u2 f.d2 ++ u2 f.d3 ++ u2 f.frequency ++ word4 f.round

/-- The presence, PRESENT or LOST, and the stamp of a phase (R105, R116; log 10). -/
def presenceFields (stamp : Option Time) : List Byte := u1 (if stamp.isSome then 0 else 1) ++ optField word4 stamp

/-- The tick source by its position in L1, L2, L3, INTERNAL (R117; log 10). -/
def sourceCode : Option Phase → Nat
  | some .l1 => 0
  | some .l2 => 1
  | some .l3 => 2
  | none => 3

/-- The READ MAINS fields in the order of R116. -/
def Mtu.fields (m : Mtu) : List Byte :=
  u1 m.mains.code ++ u1 m.good ++ (presenceFields m.stamps.l1 ++ presenceFields m.stamps.l2 ++ presenceFields m.stamps.l3)
    ++ optField LastFault.fields m.lastFault ++ optField Figures.fields m.figures ++ u1 (sourceCode m.source)
    ++ m.settings.fields

/-- READ_MAINS (R116). -/
def execReadMains (p : Port) (s : State) : Step := .next (s.read p fun s => s.mtu.fields)

end Sys2Proof.Machine
end

