-- ==== Sys2Proof/Machine/Map.lean ====
section
/-! DEFINITION. The Connection Map's requests (01_the_connection_map.md): INSTALL_CONSUMER, REMOVE_CONSUMER, HOLD, RELEASE,
READ_CONSUMER. -/

namespace Sys2Proof.Machine

/-- The port holds the installation right (R170). -/
def mayInstall (p : Port) : Bool := p != .b

/-- A present record other than n's holds the unit address (R1, R20). -/
def State.addressTaken (s : State) (n address : Nat) : Bool :=
  s.present.any fun (m, c) => m != n && c.address == address

/-- The record that INSTALL makes: the installed values and the After INSTALL column of R2. -/
def Consumer.installed (address segment : Nat) (allowed : PerPhase Bool) (cost : Nat) : Consumer where
  address := address
  segment := segment
  allowed := allowed
  cost := cost
  recorded := none
  phaseState := .unknown
  reading := none
  frozen := ⟨0, 0⟩
  lockout := false
  fault := false
  ops := 0
  lastMove := none
  hold := none
  health := 0
  recheck := true
  tried := false

/-- The parameters of INSTALL CONSUMER are in range (R20, R168). -/
def State.installInRange (s : State) (n address segment allowed cost : Nat) : Bool :=
  decide (n < Config.consumers ∧ (1 ≤ address ∧ address ≤ 126) ∧ segment < s.segs.count ∧
    (1 ≤ allowed ∧ allowed ≤ 7) ∧ cost ≤ 15)

/-- INSTALL_CONSUMER (R20). -/
def execInstallConsumer (p : Port) (n address segment allowed cost : Byte) (s : State) : Step :=
  .next (s.request p fun s =>
    if !mayInstall p then (s, refuse .rights)
    else if !s.installInRange n.toNat address.toNat segment.toNat allowed.toNat cost.toNat then (s, refuse .range)
    else if s.engine.run = .auto then (s, refuse .state)
    else if s.named n.toNat then (s, refuse .busy)
    else if s.addressTaken n.toNat address.toNat then (s, refuse .conflict)
    else
      ((s.putConsumer n.toNat
          (some (Consumer.installed address.toNat segment.toNat (phaseSetOf allowed) cost.toNat))).markReplaced n.toNat,
        okay []))

/-- A removal completes the port's WAITING query for the consumer with the result ABSENT (R152). -/
def State.dropWaiting (n : Nat) (s : State) (p : Port) : State :=
  if (s.arb.slots.get p).stage = .waiting n then
    let s := s.completeQuery p (.absent n s.engine.round)
    { s with arb := { s.arb with order := s.arb.order.filter (· != p) } }
  else s

/-- The record of a consumer is removed (R21, R152). -/
def State.remove (s : State) (n : Nat) : State :=
  [Port.a, .b, .c].foldl (State.dropWaiting n) ((s.putConsumer n none).markReplaced n)

/-- REMOVE_CONSUMER (R21). -/
def execRemoveConsumer (p : Port) (n : Byte) (s : State) : Step :=
  .next (s.request p fun s =>
    if !mayInstall p then (s, refuse .rights)
    else if Config.consumers ≤ n.toNat then (s, refuse .range)
    else if s.engine.run = .auto then (s, refuse .state)
    else if (s.consumer? n.toNat).isNone then (s, refuse .absent)
    else if s.named n.toNat then (s, refuse .busy)
    else (s.remove n.toNat, okay []))

/-- A hold as answers carry it: 0 absent, 1 indefinite, 2 with its expiry round (R172). DESIGN CHOICE (log 10): HOLD's own
answer, for which R16 gives no coding, carries the hold in the same way. -/
def holdFields : Option Hold → List Byte
  | none => u1 0
  | some .indefinite => u1 1
  | some (.until r) => u1 2 ++ word4 r

/-- The hold that HOLD places: indefinite for d = 0, else until d rounds on (R16). -/
def holdFor (d : Nat) (round : RoundNo) : Hold := if d = 0 then .indefinite else .until (round + BitVec.ofNat 32 d)

/-- HOLD: the hold is set, and QUEUED records of the consumer from the Engine or Port A are cancelled (R16). -/
def execHold (p : Port) (n d : Byte) (s : State) : Step :=
  .next (s.request p fun s =>
    if p ≠ .c then (s, refuse .rights)
    else if Config.consumers ≤ n.toNat then (s, refuse .range)
    else if (s.consumer? n.toNat).isNone then (s, refuse .absent)
    else
      let h := holdFor d.toNat s.engine.round
      ((s.updateConsumer n.toNat fun c => { c with hold := some h }).removeQueued
          (fun r => r.consumer == n.toNat && r.origin != .portC) .cancelled,
        okay (holdFields (some h))))

/-- RELEASE (R17). -/
def execRelease (p : Port) (n : Byte) (s : State) : Step :=
  .next (s.request p fun s =>
    if p ≠ .c then (s, refuse .rights)
    else if Config.consumers ≤ n.toNat then (s, refuse .range)
    else if (s.consumer? n.toNat).isNone then (s, refuse .absent)
    else (s.updateConsumer n.toNat fun c => { c with hold := none }, okay []))

/-- A reading with its reading round (R172). -/
def Reading.fields (r : Reading) : List Byte := phasor2 r.value ++ word4 r.round

/-- Every field of a record in the order of R2's table (R172; the codes of membership and tried flag: log 10). -/
def Consumer.fields (c : Consumer) : List Byte :=
  u1 c.address ++ u1 c.segment ++ u1 (phaseSetCode c.allowed) ++ u1 c.cost ++ u1 (phaseCode0 c.recorded)
    ++ u1 c.phaseState.code ++ optField Reading.fields c.reading ++ phasor2 c.frozen ++ yesNo c.lockout
    ++ yesNo c.fault ++ u1 c.ops ++ optField word4 c.lastMove ++ holdFields c.hold ++ u1 c.health
    ++ u1 (if c.recheck then 0 else 1) ++ u1 (if c.tried then 0 else 1)

/-- READ_CONSUMER: the record, its health level, whether it is frozen, the move id of a record that names it (R172). -/
def execReadConsumer (p : Port) (n : Byte) (s : State) : Step :=
  .next (s.request p fun s =>
    if Config.consumers ≤ n.toNat then (s, refuse .range)
    else
      match s.consumer? n.toNat with
      | none => (s, refuse .absent)
      | some c =>
        (s, okay (c.fields ++ u1 (healthLevel c.health).code ++ yesNo (s.isFrozen c.segment)
          ++ optField word2 ((s.queue.records.find? (·.consumer == n.toNat)).map (·.id)))))

end Sys2Proof.Machine
end

