-- ==== Sys2Proof/Machine/Segments.lean ====
section
/-! DEFINITION. The Segment Table and the Policy Store (02_segments_freezes_and_policy.md): SET_SEGMENT_COUNT,
INSTALL_SEGMENT, READ_SEGMENT, FREEZE, THAW, HEAD_REPORT, WRITE_POLICY, COMMIT_POLICY, DISCARD_POLICY, READ_POLICY. -/

namespace Sys2Proof.Machine

/-! ### Segments (R23 to R27) -/

/-- The record of a segment; a number beyond the table reads as a record after POR. -/
def State.segment (s : State) (k : Nat) : Segment := s.segs.segments.getD k Segment.reset

/-- Replace the record of a segment. -/
def State.putSegment (s : State) (k : Nat) (r : Segment) : State :=
  { s with segs := { s.segs with segments := s.segs.segments.set k r } }

/-- A present consumer or a freeze stands on a segment of c or more (R24). -/
def State.segmentInUse (s : State) (c : Nat) : Bool :=
  (s.present.any fun (_, r) => decide (c ≤ r.segment)) || (s.segs.frozenSet.drop c).any id

/-- SET_SEGMENT_COUNT (R24). -/
def execSetSegmentCount (p : Port) (c : Byte) (s : State) : Step :=
  .next (s.request p fun s =>
    if !mayInstall p then (s, refuse .rights)
    else if c.toNat < 1 ∨ Config.segments < c.toNat then (s, refuse .range)
    else if s.engine.run = .auto then (s, refuse .state)
    else if s.segmentInUse c.toNat then (s, refuse .conflict)
    else ({ s with segs := { s.segs with count := c.toNat } }, okay (u1 c.toNat)))

/-- INSTALL_SEGMENT: the limit is clamped into 10..1000 A and stored (R25). -/
def execInstallSegment (p : Port) (k : Byte) (limit : BitVec 16) (s : State) : Step :=
  .next (s.request p fun s =>
    if !mayInstall p then (s, refuse .rights)
    else if Config.segments ≤ k.toNat then (s, refuse .range)
    else if s.engine.run = .auto then (s, refuse .state)
    else
      let l := clampNat 10 1000 limit.toNat
      (s.putSegment k.toNat { s.segment k.toNat with limit := l }, okay (u2 l)))

/-- A published result in the order of R26's table. -/
def SegResult.fields (r : SegResult) : List Byte :=
  word4 r.round ++ phasor4 r.neutral ++ u6 r.q ++ u4 r.estimate
    ++ r.sums.toList.flatMap phasor4 ++ r.magnitudes.toList.flatMap u4 ++ r.overLimit.toList.flatMap yesNo

/-- The head report as R34 carries it: the six components, the stamp and the age. DESIGN CHOICE (log 10): the age stands
last, under the presence byte of the report, and no age is sent when none is held. -/
def headFields (round : RoundNo) (h : HeadReport) : List Byte :=
  h.currents.toList.flatMap phasor2 ++ word4 h.stamp ++ word4 (round - h.stamp)

/-- READ_SEGMENT (R27, R34). -/
def execReadSegment (p : Port) (k : Byte) (s : State) : Step :=
  .next (s.request p fun s =>
    if Config.segments ≤ k.toNat then (s, refuse .range)
    else
      let r := s.segment k.toNat
      (s, okay (u2 r.limit ++ optField word4 r.frozenAt ++ optField SegResult.fields r.result
        ++ (if k.toNat = 0 then optField (headFields s.engine.round) s.segs.head else [])
        ++ u1 s.segs.count)))

/-! ### Freezes (R28 to R31) -/

/-- The segment of a record's consumer is k or more (R29). -/
def State.moveAtOrBeyond (s : State) (k : Nat) (r : MoveRecord) : Bool :=
  match s.consumer? r.consumer with
  | some c => decide (k ≤ c.segment)
  | none => false

/-- The placed round of a freeze on segment k: a freeze that stands keeps its own (R28). -/
def State.placedRound (s : State) (k : Nat) : RoundNo := (s.segment k).frozenAt.getD s.engine.round

/-- FREEZE: segment k is frozen, and every QUEUED record at it or beyond is cancelled (R28, R29). -/
def execFreeze (p : Port) (k : Byte) (s : State) : Step :=
  .next (s.request p fun s =>
    if p ≠ .b then (s, refuse .rights)
    else if s.segs.count ≤ k.toNat then (s, refuse .range)
    else
      let r := s.placedRound k.toNat
      ((s.putSegment k.toNat { s.segment k.toNat with frozenAt := some r }).removeQueued
          (s.moveAtOrBeyond k.toNat) .cancelled,
        okay (word4 r)))

/-- THAW (R31). -/
def execThaw (p : Port) (k : Byte) (s : State) : Step :=
  .next (s.request p fun s =>
    if p ≠ .b then (s, refuse .rights)
    else if s.segs.count ≤ k.toNat then (s, refuse .range)
    else (s.putSegment k.toNat { s.segment k.toNat with frozenAt := none }, okay []))

/-! ### The head report (R32) -/

/-- A head component, clamped to ±20000 dA (R32). -/
def headComponent (v : BitVec 16) : Int := clampInt 20000 v.toInt

/-- HEAD_REPORT (R32). -/
def execHeadReport (p : Port) (x1 y1 x2 y2 x3 y3 : BitVec 16) (s : State) : Step :=
  .next (s.request p fun s =>
    if p ≠ .b then (s, refuse .rights)
    else
      let h : HeadReport :=
        { currents := ⟨⟨headComponent x1, headComponent y1⟩, ⟨headComponent x2, headComponent y2⟩,
            ⟨headComponent x3, headComponent y3⟩⟩
          stamp := s.engine.round }
      ({ s with segs := { s.segs with head := some h } }, okay (word4 h.stamp)))

/-! ### The policy sets (R35 to R38) -/

/-- The range of each policy field (R35). -/
def policyRange : Nat → Nat × Nat
  | 0 => (50, 60000)
  | 1 => (1, 4)
  | 2 => (0, 4294967295)
  | 3 => (0, 16777215)
  | 12 => (1, 255)
  | 13 => (1, 63)
  | 14 => (1, 65535)
  | 15 => (1, 15)
  | 16 => (1, 255)
  | 17 => (1, 20)
  | 18 => (0, 5000)
  | 19 => (1, 15)
  | _ => (0, 15)

/-- The value of a policy field by its id (R35). -/
def Policy.field (q : Policy) : Nat → Nat
  | 0 => q.roundPeriod
  | 1 => q.movesPerRound
  | 2 => q.gainMin
  | 3 => q.costUnit
  | 12 => q.dwell
  | 13 => q.opsLimit
  | 14 => q.windowLength
  | 15 => q.staleness
  | 16 => q.queueWait
  | 17 => q.deadTime
  | 18 => q.headTolerance
  | 19 => q.headAge
  | f => q.weights.getD (f - 4) 0

/-- Write a policy field by its id; ids 4 to 11 are the weights w0 to w7 (R35). -/
def Policy.put (q : Policy) (f v : Nat) : Policy :=
  match f with
  | 0 => { q with roundPeriod := v }
  | 1 => { q with movesPerRound := v }
  | 2 => { q with gainMin := v }
  | 3 => { q with costUnit := v }
  | 12 => { q with dwell := v }
  | 13 => { q with opsLimit := v }
  | 14 => { q with windowLength := v }
  | 15 => { q with staleness := v }
  | 16 => { q with queueWait := v }
  | 17 => { q with deadTime := v }
  | 18 => { q with headTolerance := v }
  | 19 => { q with headAge := v }
  | f => { q with weights := q.weights.set (f - 4) v }

/-- A value clamped into the range of a field (R36). -/
def policyClamp (f v : Nat) : Nat := clampNat (policyRange f).1 (policyRange f).2 v

/-- A policy field in the width of its range (R168). -/
def policyBytes (f v : Nat) : List Byte :=
  match f with
  | 0 | 14 | 18 => u2 v
  | 2 | 3 => u4 v
  | _ => u1 v

/-- The twenty fields of a set, in the order of their ids (R35). -/
def Policy.fields (q : Policy) : List Byte := (List.range 20).flatMap fun f => policyBytes f (q.field f)

/-- WRITE_POLICY (R36). -/
def execWritePolicy (p : Port) (f : Byte) (v : BitVec 32) (s : State) : Step :=
  .next (s.request p fun s =>
    if p ≠ .a then (s, refuse .rights)
    else if 20 ≤ f.toNat then (s, refuse .range)
    else
      let stored := policyClamp f.toNat v.toNat
      ({ s with policy := { s.policy with staged := s.policy.staged.put f.toNat stored } },
        okay (policyBytes f.toNat stored)))

/-- The commit: the active set becomes a copy of the pending set and the flag is cleared (R37). -/
def PolicyStore.commit (q : PolicyStore) : PolicyStore := { q with active := q.staged, armed := false }

/-- COMMIT_POLICY: at once in OFF, armed in AUTO (R37). -/
def execCommitPolicy (p : Port) (s : State) : Step :=
  .next (s.request p fun s =>
    if p ≠ .a then (s, refuse .rights)
    else
      match s.engine.run with
      | .off => ({ s with policy := s.policy.commit }, okay [])
      | .auto => ({ s with policy := { s.policy with armed := true } }, okay []))

/-- DISCARD_POLICY (R38). -/
def execDiscardPolicy (p : Port) (s : State) : Step :=
  .next (s.request p fun s =>
    if p ≠ .a then (s, refuse .rights)
    else ({ s with policy := { s.policy with staged := s.policy.active, armed := false } }, okay []))

/-- READ_POLICY: both sets and the flag (R35). DESIGN CHOICE (log 10): R35 gives them no order; the pending set goes first,
then the active set, each by field id, then the flag. -/
def execReadPolicy (p : Port) (s : State) : Step :=
  .next (s.read p fun s => s.policy.staged.fields ++ s.policy.active.fields ++ yesNo s.policy.armed)

end Sys2Proof.Machine
end

