-- ==== Sys2Proof/Machine/Queue.lean ====
section
/-! DEFINITION. The masters' access to the move queue (sections 5.2 and 5.10): REQUEST_MOVE and READ_QUEUE. -/

namespace Sys2Proof.Machine

/-- The origin of a manual move by its port (R84). -/
def moveOrigin (p : Port) : Origin := if p = .a then .portA else .portC

/-- Check 4 of R83: the consumer cannot be moved as asked. -/
def Consumer.ineligible (c : Consumer) (q : Phase) : Bool :=
  c.phaseState != .confirmed || !c.allowed.get q || c.recorded == some q || healthLevel c.health == .silent

/-- Checks 4 to 8 of R83 on a present record; none where all pass. -/
def State.moveRefusal (s : State) (p : Port) (n : Nat) (c : Consumer) (q : Phase) : Option Result :=
  if c.ineligible q then some .ineligible
  else if p = .a ∧ c.isHeld then some .held
  else if s.isFrozen c.segment then some .frozen
  else if s.named n then some .busy
  else if Config.queueRoom ≤ s.queue.records.length then some .full
  else none

/-- REQUEST_MOVE (R83, R84). -/
def execRequestMove (p : Port) (n q : Byte) (s : State) : Step :=
  .next (s.request p fun s =>
    if p = .b then (s, refuse .rights)
    else if Config.consumers ≤ n.toNat then (s, refuse .range)
    else
      match phaseOfCode q.toNat, s.consumer? n.toNat with
      | none, _ => (s, refuse .range)
      | some _, none => (s, refuse .absent)
      | some target, some c =>
        match s.moveRefusal p n.toNat c target, c.recorded with
        | some r, _ => (s, refuse r)
        | none, some source =>
          (s.makeMove n.toNat source target (moveOrigin p) s.engine.round, okay (word2 s.queue.nextId))
        | none, none => (s, refuse .ineligible))

/-- A move record as READ QUEUE carries it (R102). -/
def MoveRecord.fields (r : MoveRecord) : List Byte :=
  word2 r.id ++ u1 r.consumer ++ u1 (phaseCode r.source) ++ u1 (phaseCode r.target) ++ u1 r.origin.code
    ++ word4 r.queuedRound ++ u1 r.state.code ++ u1 r.issueAttempts ++ u1 r.confirmAttempts ++ optField u1 r.deadTime

/-- READ_QUEUE: occupancy, counter, and the records, oldest first; the occupancy is the list's count (R102, R168). -/
def execReadQueue (p : Port) (s : State) : Step :=
  .next (s.read p fun s =>
    u1 s.queue.records.length ++ word2 s.queue.nextId ++ s.queue.records.flatMap MoveRecord.fields)

end Sys2Proof.Machine
end

