-- ==== Sys2Proof/Machine/Arithmetic.lean ====
section
/-! DEFINITION. Balance arithmetic (03_balance_arithmetic.md): rotation, sums, score, candidate moves, selection and
reconciliation, as exact integer functions of the round working set. -/

namespace Sys2Proof.Machine

/-! ### The √3 term and rotation (R41, R42) -/

/-- The √3 term: floor((v × 3547 + 1024) / 2048). Int's `/` rounds down for a positive divisor (R41). -/
def sqrt3 (v : Int) : Int := (v * 3547 + 1024) / 2048

/-- The rotated contribution on a phase, in ru (R42). -/
def rotate (p : Phase) (v : Phasor) : Phasor :=
  match p with
  | .l1 => { x := 2 * v.x, y := 2 * v.y }
  | .l2 => { x := -v.x + sqrt3 v.y, y := -sqrt3 v.x - v.y }
  | .l3 => { x := -v.x - sqrt3 v.y, y := sqrt3 v.x - v.y }

def Phasor.zero : Phasor := { x := 0, y := 0 }

def Phasor.add (u v : Phasor) : Phasor := { x := u.x + v.x, y := u.y + v.y }

def Phasor.sub (u v : Phasor) : Phasor := { x := u.x - v.x, y := u.y - v.y }

/-- The squared magnitude x² + y². -/
def Phasor.normSq (v : Phasor) : Int := v.x * v.x + v.y * v.y

/-- The sum of a list of phasors, component by component. -/
def phasorSum (vs : List Phasor) : Phasor := vs.foldl Phasor.add Phasor.zero

/-! ### The integer square root (R45) -/

/-- The root built bit by bit: with `r` found so far, bits `k-1` to 0 are still to be tried. -/
def isqrtFrom (n : Nat) : Nat → Nat → Nat
  | 0, r => r
  | k + 1, r => isqrtFrom n k (if (r + 2 ^ k) * (r + 2 ^ k) ≤ n then r + 2 ^ k else r)

/-- The largest r with r × r ≤ n (R45). -/
def isqrt (n : Nat) : Nat := isqrtFrom n (n.log2 / 2 + 1) 0

/-! ### Segment sums, score and estimates (R43 to R46) -/

/-- A consumer is counted when its copied phase state is CONFIRMED, MOVING or UNCERTAIN; its phase is the copied
recorded phase (R15, R40). -/
def WorkEntry.countedPhase (e : WorkEntry) : Option Phase :=
  if e.phaseState = .unknown then none else e.recorded

/-- The rotated contribution of an entry, none if it is not counted (R40, R42). -/
def WorkEntry.contribution (e : WorkEntry) : Option Phasor := e.countedPhase.map fun p => rotate p e.frozen

/-- The neutral sum of segment k: the contributions of all counted consumers at segment k or beyond (R43). -/
def neutralSum (es : List WorkEntry) (k : Nat) : Phasor :=
  phasorSum ((es.filter fun e => decide (k ≤ e.segment)).filterMap WorkEntry.contribution)

/-- The unrotated sum on a phase at segment k (R46). -/
def phaseSumOn (es : List WorkEntry) (k : Nat) (p : Phase) : Phasor :=
  phasorSum ((es.filter fun e => decide (k ≤ e.segment) && e.countedPhase == some p).map (·.frozen))

/-- The three phase sums of segment k (R46). -/
def phaseSums (es : List WorkEntry) (k : Nat) : PerPhase Phasor :=
  ⟨phaseSumOn es k .l1, phaseSumOn es k .l2, phaseSumOn es k .l3⟩

/-- The threshold (10 × limit)² in dA² (R25, R46). -/
def limitSq (limit : Nat) : Int := ((10 * limit * (10 * limit) : Nat) : Int)

/-- Magnitude estimate of a phase sum (R46). -/
def magnitude (v : Phasor) : Nat := isqrt v.normSq.toNat

/-- The neutral estimate floor(isqrt(Q) / 2) in dA (R45). -/
def neutralEstimate (v : Phasor) : Nat := isqrt v.normSq.toNat / 2

/-- The weight of segment k (R35, R44). -/
def Policy.weight (p : Policy) (k : Nat) : Nat := p.weights.getD k 0

/-- The phase limit of segment k as copied (R67). -/
def WorkingSet.limit (w : WorkingSet) (k : Nat) : Nat := w.limits.getD k 0

/-- The accumulated neutral sums of the installed segments (R43). -/
def WorkingSet.neutrals (w : WorkingSet) : List Phasor := (List.range w.count).map (neutralSum w.entries)

/-- The accumulated phase sums of the installed segments (R46). -/
def WorkingSet.sums (w : WorkingSet) : List (PerPhase Phasor) := (List.range w.count).map (phaseSums w.entries)

/-- The weighted sum of the squared magnitudes (R44). -/
def weightedScore (p : Policy) (ns : List Phasor) : Int :=
  (ns.zipIdx.map fun (v, k) => (p.weight k : Int) * v.normSq).sum

/-- The accumulated score of a round (R44). -/
def WorkingSet.score (w : WorkingSet) : Nat := (weightedScore w.policy w.neutrals).toNat

/-- The published result of segment k (R26, R68). -/
def WorkingSet.segResult (w : WorkingSet) (k : Nat) : SegResult :=
  let nk := neutralSum w.entries k
  let ps := phaseSums w.entries k
  { round := w.round, neutral := nk, q := nk.normSq.toNat, estimate := neutralEstimate nk, sums := ps,
    magnitudes := ps.map magnitude, overLimit := ps.map fun v => decide (limitSq (w.limit k) < v.normSq) }

/-! ### Reconciliation with the head (R33, R55, R56) -/

/-- The head report the round may use: the copy, if its age is within the head age limit (R33). -/
def WorkingSet.freshHead (w : WorkingSet) : Option HeadReport :=
  match w.head with
  | some h => if since w.round h.stamp ≤ w.policy.headAge then some h else none
  | none => none

/-- The residuals of the three phases against a head report (R55). -/
def WorkingSet.residual (w : WorkingSet) (h : HeadReport) : PerPhase Phasor :=
  let p0 := phaseSums w.entries 0
  ⟨h.currents.l1.sub p0.l1, h.currents.l2.sub p0.l2, h.currents.l3.sub p0.l3⟩

/-- Reconciliation has failed: tolerance above 0, a fresh report, and some squared residual above the square of the
tolerance (R56). -/
def WorkingSet.mismatch (w : WorkingSet) : Bool :=
  match w.freshHead with
  | some h =>
    decide (0 < w.policy.headTolerance) &&
      (w.residual h).toList.any fun r => decide (((w.policy.headTolerance * w.policy.headTolerance : Nat) : Int) < r.normSq)
  | none => false

/-! ### Eligibility (R70) -/

/-- The permitted targets: allowed, other than the copied recorded phase, PRESENT at the latch, in order (R48, R70). -/
def WorkingSet.targets (w : WorkingSet) (e : WorkEntry) : List Phase :=
  phases.filter fun q => e.allowed.get q && e.recorded != some q && w.present.get q

/-- A consumer is eligible for selection (R70). -/
def WorkingSet.eligible (w : WorkingSet) (e : WorkEntry) : Bool :=
  e.phaseState == .confirmed &&
  (match e.readingRound with
    | some r => decide (since w.round r ≤ w.policy.staleness)
    | none => false) &&
  !e.held &&
  !frozenAt w.frozenSegs e.segment &&
  decide (e.health ≤ 39) &&
  !e.lockout && !e.fault &&
  (match e.lastMove with
    | some r => decide (w.policy.dwell ≤ since w.round r)
    | none => true) &&
  decide (e.ops < w.policy.opsLimit) &&
  !(w.targets e).isEmpty

/-! ### Candidates and selection (R48 to R54) -/

/-- The working sums of a search: neutral sums and phase sums of the installed segments (R47, R53). -/
structure WorkSums where
  neutrals : List Phasor
  sums : List (PerPhase Phasor)
  deriving DecidableEq, Repr

/-- A candidate: a consumer, its source and a target (R48). -/
structure Candidate where
  entry : WorkEntry
  source : Phase
  target : Phase
  deriving DecidableEq, Repr

/-- An entry of the selected list (R54). -/
structure Selected where
  consumer : Nat
  source : Phase
  target : Phase
  gain : Int
  effective : Int
  deriving DecidableEq, Repr

/-- The candidates of a search: eligible consumers not yet chosen, ascending, each with its permitted targets in
order (R48). -/
def WorkingSet.candidates (w : WorkingSet) (chosen : List Nat) : List Candidate :=
  (w.entries.filter fun e => w.eligible e && !chosen.contains e.n).flatMap fun e =>
    match e.recorded with
    | some p => (w.targets e).map fun q => { entry := e, source := p, target := q }
    | none => []

/-- The change of a candidate (R49). -/
def Candidate.delta (c : Candidate) : Phasor := (rotate c.target c.entry.frozen).sub (rotate c.source c.entry.frozen)

/-- The gain: the weighted fall of the squared sums of segments 0 to the consumer's own (R49). -/
def gain (p : Policy) (ws : WorkSums) (c : Candidate) : Int :=
  ((ws.neutrals.take (c.entry.segment + 1)).zipIdx.map fun (v, k) =>
    (p.weight k : Int) * (v.normSq - (v.add c.delta).normSq)).sum

/-- The effective gain (R50). -/
def effective (p : Policy) (ws : WorkSums) (c : Candidate) : Int :=
  gain p ws c - ((c.entry.cost * p.costUnit : Nat) : Int)

/-- A candidate is accepted on its effective gain (R50). -/
def acceptable (p : Policy) (e : Int) : Bool := decide (0 < e) && decide ((p.gainMin : Int) ≤ e)

/-- A phase sum after the move is over its limit and raised (R51). -/
def breaks (limit : Nat) (before after : Phasor) : Bool :=
  decide (limitSq limit < after.normSq) && decide (before.normSq < after.normSq)

/-- A candidate is within the phase-limit rule on every segment it affects (R51). -/
def WorkingSet.withinLimits (w : WorkingSet) (ws : WorkSums) (c : Candidate) : Bool :=
  (ws.sums.take (c.entry.segment + 1)).zipIdx.all fun (ps, k) =>
    !breaks (w.limit k) (ps.get c.source) ((ps.get c.source).sub c.entry.frozen) &&
    !breaks (w.limit k) (ps.get c.target) ((ps.get c.target).add c.entry.frozen)

/-- The better of the best so far and a new candidate: the larger effective gain, the earlier on a tie (R52). -/
def better (best : Option (Candidate × Int)) (c : Candidate) (e : Int) : Option (Candidate × Int) :=
  match best with
  | some (b, eb) => if eb < e then some (c, e) else some (b, eb)
  | none => some (c, e)

/-- The choice of one search among its candidates, in order (R50 to R52). -/
def WorkingSet.choose (w : WorkingSet) (ws : WorkSums) (cs : List Candidate) : Option (Candidate × Int) :=
  cs.foldl (fun best c =>
    let e := effective w.policy ws c
    if acceptable w.policy e && w.withinLimits ws c then better best c e else best) none

/-- The working sums after a chosen move (R53). -/
def WorkSums.apply (ws : WorkSums) (c : Candidate) : WorkSums where
  neutrals := ws.neutrals.zipIdx.map fun (v, k) => if k ≤ c.entry.segment then v.add c.delta else v
  sums := ws.sums.zipIdx.map fun (ps, k) =>
    if k ≤ c.entry.segment then
      let ps := ps.set c.source ((ps.get c.source).sub c.entry.frozen)
      ps.set c.target ((ps.get c.target).add c.entry.frozen)
    else ps

/-- The searches of a round: at most `left` more moves; answers the moves chosen in order and the candidates examined
(R48, R53, R71). -/
def WorkingSet.searches (w : WorkingSet) : Nat → WorkSums → List Nat → List Selected × Nat
  | 0, _, _ => ([], 0)
  | left + 1, ws, chosen =>
    let cs := w.candidates chosen
    match w.choose ws cs with
    | none => ([], cs.length)
    | some (c, e) =>
      let rest := w.searches left (ws.apply c) (c.entry.n :: chosen)
      ({ consumer := c.entry.n, source := c.source, target := c.target, gain := gain w.policy ws c, effective := e }
        :: rest.1, cs.length + rest.2)

/-- The selection of a round whose gate is open (R71). -/
def WorkingSet.select (w : WorkingSet) : List Selected × Nat :=
  w.searches w.policy.movesPerRound { neutrals := w.neutrals, sums := w.sums } []

/-! ### The gate (R69) -/

/-- The first gate condition that does not hold gives the outcome; none when the gate is open (R69). -/
def WorkingSet.gate (w : WorkingSet) : Option RoundOutcome :=
  if w.run = .off then some .off
  else if w.mains ≠ .valid then some .mains
  else if w.occupancy ≠ 0 then some .deferred
  else if w.mismatch then some .mismatch
  else none

/-- The selected list and the candidates examined; nothing where the gate is closed (R69). -/
def WorkingSet.selection (w : WorkingSet) : List Selected × Nat :=
  if w.gate.isNone then w.select else ([], 0)

/-- The provisional outcome (R69). -/
def WorkingSet.provisional (w : WorkingSet) : RoundOutcome :=
  match w.gate with
  | some o => o
  | none => if w.selection.1.isEmpty then .none else .selected

end Sys2Proof.Machine
end

