-- ==== Sys2Proof/Machine/Round.lean ====
section
/-! DEFINITION. The balancing round (04_the_balancing_round.md): START, STOP, the latch (ROUND_TIMER_EXPIRY and the three
expiries inside it), COMPLETION with its post and publication, READ_ROUND. -/

namespace Sys2Proof.Machine

/-! ### Run state (R58 to R60) -/

/-- START (R59). -/
def execStart (p : Port) (s : State) : Step :=
  .next (s.request p fun s =>
    if p ≠ .a then (s, refuse .rights)
    else ({ s with engine := { s.engine with run := .auto } }, okay []))

/-- STOP: in AUTO the run state becomes OFF and every QUEUED ENGINE record is cancelled (R60). -/
def execStop (p : Port) (s : State) : Step :=
  .next (s.request p fun s =>
    if p = .b then (s, refuse .rights)
    else
      match s.engine.run with
      | .off => (s, okay [])
      | .auto =>
        ({ s with engine := { s.engine with run := .off } }.removeQueued (fun r => r.origin == Origin.engine) .cancelled,
          okay []))

/-! ### The latch (R61 to R67) -/

/-- Step 1 of the latch: an armed commit is applied (R37). -/
def State.latchCommit (s : State) : State :=
  if s.policy.armed then { s with policy := s.policy.commit } else s

/-- Step 2: the round number increases by 1 (R63). -/
def State.latchRound (s : State) : State := { s with engine := { s.engine with round := s.engine.round + 1 } }

/-- The window counter, advanced by this latch, has reached the window length (R64). -/
def State.windowReached (s : State) : Bool := decide (s.policy.active.windowLength ≤ s.engine.window + 1)

/-- Step 3: the window counter advances; at the window length every ops count and the counter return to 0 (R4, R64). -/
def State.latchWindow (s : State) : State :=
  if s.windowReached then
    { s with engine := { s.engine with window := 0 } }.mapConsumers fun c => { c with ops := 0 }
  else { s with engine := { s.engine with window := s.engine.window + 1 } }

/-- The record's hold expires in this round (R18). -/
def Consumer.holdExpires (c : Consumer) (round : RoundNo) : Bool := c.hold == some (.until round)

/-- Step 4: every hold whose expiry round is the new round number becomes absent (R18). -/
def State.latchHolds (s : State) : State :=
  s.mapConsumers fun c => if c.holdExpires s.engine.round then { c with hold := none } else c

/-- A record has waited past the queue wait limit (R66). -/
def State.waitedOut (s : State) (r : MoveRecord) : Bool :=
  decide (s.policy.active.queueWait < since s.engine.round r.queuedRound)

/-- Step 5: every QUEUED record past the queue wait limit ends EXPIRED (R66). -/
def State.latchQueue (s : State) : State := s.removeQueued s.waitedOut .expired

/-- Step 6 and R15: every tried flag is cleared, and the frozen reading becomes a copy of the latest reading. -/
def Consumer.latched (c : Consumer) : Consumer :=
  { c with tried := false, frozen := match c.reading with
    | some r => r.value
    | none => ⟨0, 0⟩ }

/-- The copy of a record in the working set (R67). -/
def workEntry (n : Nat) (c : Consumer) : WorkEntry where
  n := n
  segment := c.segment
  allowed := c.allowed
  cost := c.cost
  recorded := c.recorded
  phaseState := c.phaseState
  frozen := c.frozen
  readingRound := c.reading.map (·.round)
  lockout := c.lockout
  fault := c.fault
  held := c.isHeld
  ops := c.ops
  lastMove := c.lastMove
  health := c.health

/-- Steps 7 and 8: the working set, with the queue occupancy and the mains state (R65, R67). -/
def State.workingSet (s : State) : WorkingSet where
  round := s.engine.round
  entries := s.present.map fun (n, c) => workEntry n c
  count := s.segs.count
  limits := s.segs.segments.map (·.limit)
  frozenSegs := s.segs.frozenSet
  head := s.segs.head
  policy := s.policy.active
  run := s.engine.run
  mains := s.mtu.mains
  present := s.mtu.stamps.map (·.isSome)
  occupancy := s.queue.records.length
  replaced := []

/-- The Engine holds the working set from here to the completion (R47, R65). -/
def State.latchCopy (s : State) : State := { s with engine := { s.engine with work := some s.workingSet } }

/-- The latch up to step 3. -/
def State.latchCounted (s : State) : State := s.latchCommit.latchRound.latchWindow

/-- The latch: its eight steps in order (R65). -/
def State.latch (s : State) : State :=
  ((s.latchCounted.latchHolds.latchQueue).mapConsumers Consumer.latched).latchCopy

/-- The expiry that waits is taken: a latch follows unless the Engine is busy (R62, R65). -/
def State.takeExpiry (s : State) : State :=
  let s := { s with engine := { s.engine with expiryDue := false } }
  if s.engine.work.isSome then s else s.latch

/-- An expiry waits and a latch would follow it. -/
def State.latchDue (s : State) : Bool := s.engine.expiryDue && s.engine.work.isNone

/-- The latch that is due is one at which the window expires (R64). -/
def State.windowExpires (s : State) : Bool := s.latchDue && s.latchCommit.windowReached

/-- The latch that is due is one at which a hold expires (R18). -/
def State.holdExpires (s : State) : Bool :=
  s.latchDue && s.present.any fun (_, c) => c.holdExpires (s.engine.round + 1)

/-- The latch that is due is one at which a QUEUED record expires (R66). -/
def State.recordExpires (s : State) : Bool :=
  s.latchDue && s.queue.records.any fun r => r.state == .queued && s.latchCommit.latchRound.waitedOut r

/-- ROUND_TIMER_EXPIRY (R61, R62, R65). -/
def execRoundTimerExpiry (s : State) : Step := .next (s.event s.engine.expiryDue State.takeExpiry)

/-- WINDOW_EXPIRY: the latch at which the window expires (R64; log 4). -/
def execWindowExpiry (s : State) : Step := .next (s.event s.windowExpires State.takeExpiry)

/-- HOLD_EXPIRY: the latch at which a hold expires (R18; log 4). -/
def execHoldExpiry (s : State) : Step := .next (s.event s.holdExpires State.takeExpiry)

/-- EXPIRED: the latch at which a QUEUED record expires (R66; log 4). -/
def execExpired (s : State) : Step := .next (s.event s.recordExpires State.takeExpiry)

/-! ### Post and publication (R72 to R75) -/

/-- The record of a consumer has been installed or removed since the latch of the round in hand (R22). -/
def State.replacedInRound (s : State) (n : Nat) : Bool := s.engine.work.any (·.replaced.contains n)

/-- The checks of the post on one selected move, against the state as it stands: the list of R72. The move of a record
that was installed during the round is withdrawn (R22), also once a poll has confirmed it again (DEDUCED, log 21), and the
target of a record that is made lies in the consumer's allowed set (R2, R80, R88). DEDUCED (log 22): a consumer that has
left the source and is CONFIRMED on it again by the post passes, as R72 reads the state as it stands. -/
def State.postable (s : State) (m : Selected) : Bool :=
  s.engine.run == .auto &&
  (match s.consumer? m.consumer with
    | some c =>
      c.phaseState == .confirmed && c.recorded == some m.source && c.allowed.get m.target && !c.isHeld &&
        !s.isFrozen c.segment
    | none => false) &&
  !s.replacedInRound m.consumer &&
  !s.named m.consumer && decide (s.queue.records.length < Config.queueRoom)

/-- The post of one selected move: appended, or withdrawn (R72). -/
def State.postOne (round : RoundNo) (acc : State × Nat) (m : Selected) : State × Nat :=
  if acc.1.postable m then (acc.1.makeMove m.consumer m.source m.target .engine round, acc.2 + 1) else acc

/-- The post: the state after it and how many entries were appended (R72). -/
def State.post (s : State) (round : RoundNo) (ms : List Selected) : State × Nat :=
  ms.foldl (State.postOne round) (s, 0)

/-- The round summary (R73, R75). -/
def WorkingSet.summary (w : WorkingSet) (run : RunState) (posted : Nat) : Summary where
  round := w.round
  outcome := if run = .off then .off else w.provisional
  score := w.score
  examined := w.selection.2
  posted := posted
  withdrawn := w.selection.1.length - posted
  headStale := w.freshHead.isNone
  residuals := w.freshHead.map fun h => (w.residual h).map magnitude

/-- The published results of all eight segments: this round's below the copied count, absent from it on (R26). -/
def WorkingSet.publish (w : WorkingSet) (segs : List Segment) : List Segment :=
  segs.zipIdx.map fun (r, k) => { r with result := if k < w.count then some (w.segResult k) else none }

/-- The completion: post, outcome, publication, flags; the Engine is no longer busy (R72 to R74). The selection is
computed here from the working set (log 18). -/
def State.complete (s : State) (w : WorkingSet) : State :=
  let posted := s.post w.round w.selection.1
  let sum := w.summary s.engine.run posted.2
  let s := posted.1
  let s := { s with
    segs := { s.segs with segments := w.publish s.segs.segments }
    engine := { s.engine with work := none, summary := some sum } }.raiseAll .round
  if sum.outcome = .mismatch then s.raiseAll .mismatch else s

/-- COMPLETION (R62). -/
def execCompletion (s : State) : Step :=
  .next (match s.engine.work with
    | some w => s.event true fun s => s.complete w
    | none => s)

/-- A round summary in the order of R75's table. -/
def Summary.fields (r : Summary) : List Byte :=
  word4 r.round ++ u1 r.outcome.code ++ u6 r.score ++ u2 r.examined ++ u1 r.posted ++ u1 r.withdrawn
    ++ yesNo r.headStale
    ++ (match r.residuals with
      | some v => v.toList.flatMap fun x => 1 :: u4 x
      | none => [0, 0, 0])

/-- READ_ROUND (R75). -/
def execReadRound (p : Port) (s : State) : Step := .next (s.read p fun s => optField Summary.fields s.engine.summary)

end Sys2Proof.Machine
end

