-- ==== Sys2Proof/Machine/Ports.lean ====
section
/-! DEFINITION. The master ports, the journal's reading and the resets (09_change_journal.md section 9.4,
10_master_ports.md): READ_JOURNAL, READ_STATUS, CLEAR_FLAGS, SET_MASK, RESTART, UNKNOWN_REQUEST, the select windows,
RESETN_LOW, WARM_RESET and POWER_ON_RESET. -/

namespace Sys2Proof.Machine

/-! ### Reading the journal (R163) -/

/-- The fields of a kind: a MOVE_END's id, origin, outcome and, for REFUSED, verdict; an OBSERVED's cause (R158;
log 10). -/
def EntryKind.fields : EntryKind → List Byte
  | .moveEnd id origin outcome verdict =>
    word2 id ++ u1 origin.code ++ u1 outcome.code ++ (match verdict with
      | some v => u1 v.code
      | none => [])
  | .observed cause => u1 cause.code

/-- The kind's position: MOVE_END, OBSERVED (R158). -/
def EntryKind.code : EntryKind → Nat
  | .moveEnd _ _ _ _ => 0
  | .observed _ => 1

/-- A journal entry in the order of R158's table. -/
def Entry.fields (e : Entry) : List Byte :=
  word2 e.seq ++ u1 e.kind.code ++ u1 e.consumer ++ u1 (phaseCode0 e.phaseBefore) ++ u1 (phaseCode e.phaseAfter)
    ++ word4 e.round ++ e.kind.fields

/-- How many entries a port has unread (R162). -/
def Journal.unread (j : Journal) (p : Port) : Nat := (j.next - j.cursors.get p).toNat

/-- The entry at the port's cursor; none when the cursor is the next sequence number (R163). -/
def State.nextUnread (s : State) (p : Port) : Option Entry :=
  if s.journal.cursors.get p = s.journal.next then none
  else s.journal.ring.find? (·.seq == s.journal.cursors.get p)

/-- READ_JOURNAL: the entry at the port's cursor, or EMPTY with the next sequence number (R163). -/
def execReadJournal (p : Port) (s : State) : Step :=
  .next (s.request p fun s =>
    match s.nextUnread p with
    | some e =>
      ({ s with journal := { s.journal with cursors := s.journal.cursors.set p (s.journal.cursors.get p + 1) } },
        okay (e.fields ++ u1 (s.journal.unread p - 1)))
    | none => (s, u1 Result.empty.code ++ word2 s.journal.next))

/-! ### Status, flags, mask, restart (R171, R174, R175, R177) -/

/-- The count of present records in a phase state (R1, R171). -/
def State.countIn (s : State) (st : PhaseState) : Nat := (s.present.filter fun (_, c) => c.phaseState == st).length

/-- The fields of READ STATUS (R171). -/
def State.statusFields (s : State) (p : Port) : List Byte :=
  u1 s.engine.run.code ++ word4 s.engine.round ++ yesNo s.policy.armed ++ u1 s.segs.count ++ u1 s.mtu.mains.code
    ++ u1 s.fbc.link.code ++ yesNo s.fbc.enabled ++ u2 s.fbc.rate.hundreds ++ u2 s.fbc.contentions
    ++ optField word4 s.fbc.lastContention ++ u1 s.queue.records.length ++ u1 s.present.length
    ++ u1 (s.countIn .unknown) ++ u1 (s.countIn .uncertain)
    ++ u2 (s.ports.get p).flags.toNat ++ u2 (s.ports.get p).mask.toNat

/-- READ_STATUS (R171). -/
def execReadStatus (p : Port) (s : State) : Step := .next (s.read p fun s => s.statusFields p)

/-- Replace a port's own state. -/
def State.putPort (s : State) (p : Port) (q : PortState) : State := { s with ports := s.ports.set p q }

/-- CLEAR_FLAGS (R174). -/
def execClearFlags (p : Port) (set : BitVec 16) (s : State) : Step :=
  .next (s.request p fun s =>
    if !flagsInRange set then (s, refuse .range)
    else
      let q := (s.ports.get p).clear set
      (s.putPort p q, okay (u2 q.flags.toNat)))

/-- SET_MASK (R175). -/
def execSetMask (p : Port) (set : BitVec 16) (s : State) : Step :=
  .next (s.request p fun s =>
    if !flagsInRange set then (s, refuse .range)
    else
      let q := (s.ports.get p).withMask set
      (s.putPort p q, okay (u2 q.mask.toNat)))

/-- RESTART: answered OK, and a warm reset is due at the close of Port A's window (R177). -/
def execRestart (p : Port) (s : State) : Step :=
  .next (s.request p fun s =>
    if p ≠ .a then (s, refuse .rights) else ({ s with restartDue := true }, okay []))

/-- UNKNOWN_REQUEST: the port reads the request out of the bytes clocked in, and answers UNKNOWN for a code the catalogue
does not hold, FORMAT for a known code with a wrong parameter count (R166, R167). A request that is not complete has no
effect (R166), and a well-formed request of the catalogue is that request's own command and no event here (log 11). -/
def execUnknownRequest (p : Port) (code : Byte) (rest : List Byte) (s : State) : Step :=
  .next (match splitRequest (code :: rest) with
    | none => s
    | some (code, params) =>
      match catalogueCount code with
      | none => s.request p fun s => (s, refuse .unknown)
      | some n => if params.length = n then s else s.request p fun s => (s, refuse .format))

/-! ### Warm reset (R13, R28, R32, R35, R79, R101, R120, R139, R157, R165, R179) -/

/-- A record at a warm reset (R2, R13). -/
def Consumer.warm (c : Consumer) : Consumer :=
  { c with
    phaseState := if c.phaseState = .unknown then .unknown else .uncertain
    reading := none, frozen := ⟨0, 0⟩, lockout := false, fault := false, hold := none, health := 0
    recheck := true, tried := false }

/-- A qualifier at a reset: its pin stays where the outside drives it (R103). -/
def Qualifier.restart (q : Qualifier) (t : Time) : Qualifier := Qualifier.reset q.pin t

/-- The Mains Timing Unit at a warm reset: as after POR, the settings kept (R120). -/
def Mtu.warm (m : Mtu) (t : Time) : Mtu :=
  { Mtu.reset m.pins.l1.pin m.pins.l2.pin m.pins.l3.pin t with settings := m.settings }

/-- The link after a reset (R125, R139). -/
def linkAtReset (enabled : Bool) (t : Time) : Link := if enabled then .joining t else .off

/-- The warm reset of every block, at the time the part stands at. -/
def State.warm (s : State) : State :=
  { s with
    held := false
    restartDue := false
    consumers := s.consumers.map (Option.map Consumer.warm)
    segs := { s.segs with segments := s.segs.segments.map fun r => { r with frozenAt := none }, head := none }
    policy := { s.policy with armed := false }
    engine := { s.engine with run := .off, timer := 0, expiryDue := false, work := none }
    queue := { s.queue with records := [] }
    mtu := s.mtu.warm s.time
    fbc := { s.fbc with link := linkAtReset s.fbc.enabled s.time }
    arb := Arbiter.reset
    ports := s.ports.map fun q => PortState.reset q.window.drop }

/-- WARM_RESET: RESETN returns high after the hold; without the hold a short low is ignored (R178). -/
def execWarmReset (t : Time) (s : State) : Step :=
  .next (if s.held then (s.at t).warm else s.at t)

/-- The hold begins: windows are abandoned, a due RESTART is dropped, a transaction in progress is dropped without a
result (R139, R178). DEDUCED (log 14): R178 drops them "when RESETN goes low" and ignores a low shorter than 10 µs, so they
go at the end of the 10 µs, and a request completed within them is taken. -/
def State.hold (s : State) : State :=
  let s := match s.txn? with
    | some _ => s.putLink (.online (.quiet s.time s.time))
    | none => s
  { s with
    held := true
    restartDue := false
    ports := s.ports.map fun q => { q with window := q.window.drop } }

/-- RESETN_LOW (R178). -/
def execResetnLow (t : Time) (s : State) : Step := .next ((s.at t).event true State.hold)

/-- The part after POR at a time, with the pins as the outside drives them: zero-crossing levels and FRX stay, a window that is
open is abandoned until select goes high (R179; log 5, log 6). -/
def State.powerOn (s : State) : State :=
  { State.reset with
    time := s.time
    mtu := Mtu.reset s.mtu.pins.l1.pin s.mtu.pins.l2.pin s.mtu.pins.l3.pin s.time
    fbc := { State.reset.fbc with link := linkAtReset true s.time, frx := s.fbc.frx }
    ports := s.ports.map fun q => PortState.reset q.window.drop
    freeCount := s.freeCount
    pending := s.pending }

/-- POWER_ON_RESET (R179). -/
def execPowerOnReset (t : Time) (s : State) : Step := .next (s.at t).powerOn

/-! ### Select windows (R166, R177, R179) -/

/-- Select goes low: a window opens where select was high; during the hold the port takes none (R166, R178). -/
def State.openWindow (s : State) (p : Port) : State :=
  if s.window p = .closed then s.setWindow p (if s.held then .abandoned else .receiving) else s

/-- The byte that a window shifts out, `k` bytes after the last bit of its request: the answer's bytes, then 00h; 00h while
the request is being received, and in an abandoned window during the hold (R166, R167, R178); in an abandoned window after
the hold 00h too (DESIGN CHOICE, log 11). -/
def Window.shiftedOut (w : Window) (k : Nat) : Byte :=
  match w with
  | .answered bytes => bytes.getD k 0
  | _ => 0

/-- SELECT_WINDOW_OPEN (R166). -/
def execSelectWindowOpen (p : Port) (s : State) : Step := .next (s.openWindow p)

/-- Select goes high: an incomplete request or the rest of an answer is lost; a due RESTART is taken as Port A's window
closes, but not during the hold, which has dropped it (R166, R167, R177, R178). -/
def State.closeWindow (s : State) (p : Port) : State :=
  let s := s.setWindow p .closed
  if p = .a ∧ s.restartDue ∧ !s.held then s.warm else s

/-- SELECT_WINDOW_CLOSE (R166). -/
def execSelectWindowClose (p : Port) (t : Time) (s : State) : Step := .next ((s.at t).closeWindow p)

end Sys2Proof.Machine
end

