-- ==== Sys2Proof/Machine/Dispatch.lean ====
section
/-! DEFINITION. The dispatch: one arm per command, one direct call of its meaning. -/

namespace Sys2Proof.Machine

def exec (i : Instr) (s : State) : Host.Outcome State Fault Refusal :=
  match i with
  | .powerOnReset t => Sys2Proof.Machine.execPowerOnReset t s
  | .resetnLow t => Sys2Proof.Machine.execResetnLow t s
  | .warmReset t => Sys2Proof.Machine.execWarmReset t s
  | .selectWindowClose p t => Sys2Proof.Machine.execSelectWindowClose p t s
  | .unknownRequest p code rest => Sys2Proof.Machine.execUnknownRequest p code rest s
  | .readStatus p => Sys2Proof.Machine.execReadStatus p s
  | .readConsumer p n => Sys2Proof.Machine.execReadConsumer p n s
  | .readSegment p k => Sys2Proof.Machine.execReadSegment p k s
  | .readRound p => Sys2Proof.Machine.execReadRound p s
  | .readQueue p => Sys2Proof.Machine.execReadQueue p s
  | .readMains p => Sys2Proof.Machine.execReadMains p s
  | .readPolicy p => Sys2Proof.Machine.execReadPolicy p s
  | .readJournal p => Sys2Proof.Machine.execReadJournal p s
  | .readQuery p => Sys2Proof.Machine.execReadQuery p s
  | .writePolicy p f v => Sys2Proof.Machine.execWritePolicy p f v s
  | .commitPolicy p => Sys2Proof.Machine.execCommitPolicy p s
  | .discardPolicy p => Sys2Proof.Machine.execDiscardPolicy p s
  | .start p => Sys2Proof.Machine.execStart p s
  | .stop p => Sys2Proof.Machine.execStop p s
  | .installConsumer p n address segment allowed cost => Sys2Proof.Machine.execInstallConsumer p n address segment allowed cost s
  | .removeConsumer p n => Sys2Proof.Machine.execRemoveConsumer p n s
  | .setSegmentCount p c => Sys2Proof.Machine.execSetSegmentCount p c s
  | .installSegment p k limit => Sys2Proof.Machine.execInstallSegment p k limit s
  | .setMains p frequency band tol settle qualify t => Sys2Proof.Machine.execSetMains p frequency band tol settle qualify t s
  | .setBus p enable rate t => Sys2Proof.Machine.execSetBus p enable rate t s
  | .freeze p k => Sys2Proof.Machine.execFreeze p k s
  | .thaw p k => Sys2Proof.Machine.execThaw p k s
  | .headReport p x1 y1 x2 y2 x3 y3 => Sys2Proof.Machine.execHeadReport p x1 y1 x2 y2 x3 y3 s
  | .hold p n d => Sys2Proof.Machine.execHold p n d s
  | .release p n => Sys2Proof.Machine.execRelease p n s
  | .requestMove p n q => Sys2Proof.Machine.execRequestMove p n q s
  | .queryUnit p n => Sys2Proof.Machine.execQueryUnit p n s
  | .clearFlags p set => Sys2Proof.Machine.execClearFlags p set s
  | .setMask p set => Sys2Proof.Machine.execSetMask p set s
  | .restart p => Sys2Proof.Machine.execRestart p s
  | .roundTimerExpiry => Sys2Proof.Machine.execRoundTimerExpiry s
  | .windowExpiry => Sys2Proof.Machine.execWindowExpiry s
  | .holdExpiry => Sys2Proof.Machine.execHoldExpiry s
  | .expired => Sys2Proof.Machine.execExpired s
  | .completion => Sys2Proof.Machine.execCompletion s
  | .zcPinChange ph level t => Sys2Proof.Machine.execZcPinChange ph level t s
  | .qualifyTimeExpiry ph t => Sys2Proof.Machine.execQualifyTimeExpiry ph t s
  | .lossExpiry ph t => Sys2Proof.Machine.execLossExpiry ph t s
  | .internalTick t => Sys2Proof.Machine.execInternalTick t s
  | .repeatDue => Sys2Proof.Machine.execRepeatDue s
  | .switchingWaitEnd => Sys2Proof.Machine.execSwitchingWaitEnd s
  | .confirmRetryDue => Sys2Proof.Machine.execConfirmRetryDue s
  | .issueGrant => Sys2Proof.Machine.execIssueGrant s
  | .confirmGrant => Sys2Proof.Machine.execConfirmGrant s
  | .recheckGrant => Sys2Proof.Machine.execRecheckGrant s
  | .queryGrant => Sys2Proof.Machine.execQueryGrant s
  | .sweepGrant => Sys2Proof.Machine.execSweepGrant s
  | .requestSent echo t => Sys2Proof.Machine.execRequestSent echo t s
  | .contention echo t => Sys2Proof.Machine.execContention echo t s
  | .foreignTalker t => Sys2Proof.Machine.execForeignTalker t s
  | .quietLimit t => Sys2Proof.Machine.execQuietLimit t s
  | .quietTimeEnd t => Sys2Proof.Machine.execQuietTimeEnd t s
  | .joinWaitComplete t => Sys2Proof.Machine.execJoinWaitComplete t s
  | .noReply t => Sys2Proof.Machine.execNoReply t s
  | .gap chars t => Sys2Proof.Machine.execGap chars t s
  | .replyFailed chars t => Sys2Proof.Machine.execReplyFailed chars t s
  | .state status x y tag t => Sys2Proof.Machine.execState status x y tag t s
  | .answer tag verdict t => Sys2Proof.Machine.execAnswer tag verdict t s
  | .selectWindowOpen p => Sys2Proof.Machine.execSelectWindowOpen p s
  | .frxAtSpace t => Sys2Proof.Machine.execFrxAtSpace t s

end Sys2Proof.Machine
end

