-- ==== Sys2Proof/Safety.lean ====
section
/-! DEFINITION. What a sound state is, in the terms the claims use: the laws that the rules state of the map, the move
queue, the journal, the mains, the Arbiter and the feeder's settings. Each is decidable, and each is an invariant that
every command keeps. -/

namespace Sys2Proof.Machine

/-! ### The change journal (R159, R161, R162) -/

/-- The ring holds at most 32 entries, numbered consecutively up to the next sequence number; no port has more unread
entries than the ring holds (R159, R161, R162). -/
abbrev Journal.wf (j : Journal) : Prop :=
  j.ring.length ≤ 32 ∧
  j.ring.map (·.seq) = (List.range j.ring.length).map (fun i => j.next - BitVec.ofNat 16 (j.ring.length - i)) ∧
  (j.unread .a ≤ j.ring.length ∧ j.unread .b ≤ j.ring.length ∧ j.unread .c ≤ j.ring.length)

/-! ### The connection map and the move queue (R2, R4, R5, R80, R81, R87, R154) -/

/-- A present record: NONE is held exactly in UNKNOWN (R2, R5), the recheck set holds exactly the UNKNOWN and the
UNCERTAIN and only its members are tried (R5), the ops count and the health score are in their ranges (R4, R154). -/
abbrev Consumer.wf (c : Consumer) : Prop :=
  (c.recorded = none ↔ c.phaseState = .unknown) ∧
  (c.recheck = true ↔ c.phaseState = .unknown ∨ c.phaseState = .uncertain) ∧
  (c.tried = true → c.recheck = true) ∧
  c.ops ≤ 63 ∧ c.health ≤ 160

/-- A move record: source and target differ, its attempts are in their ranges, and a further attempt waits or is due
only while fewer than three were made, and it never both waits and is due; a QUEUED record has made none and holds no dead
time and no wait, and a record beyond QUEUED holds its dead time (R80, R92, R97). -/
abbrev MoveRecord.wf (r : MoveRecord) : Prop :=
  r.source ≠ r.target ∧ r.issueAttempts ≤ 3 ∧ r.confirmAttempts ≤ 3 ∧
  (r.state = .queued →
    r.issueAttempts = 0 ∧ r.deadTime = none ∧ r.wait = none ∧ r.waitEnded = false ∧ r.attemptDue = false) ∧
  (r.state ≠ .queued → r.deadTime ≠ none) ∧
  (r.state ≠ .confirming → r.confirmAttempts = 0) ∧
  (r.attemptDue = true → r.wait = none ∧ r.waitEnded = false) ∧
  (r.wait ≠ none ∨ r.waitEnded = true ∨ r.attemptDue = true →
    (r.state = .issuing → r.issueAttempts < 3) ∧ (r.state = .confirming → r.confirmAttempts < 3))

/-- The consumer of a record in flight is MOVING, on the record's source (R5, R88). -/
def State.flies (s : State) (r : MoveRecord) : Bool :=
  match s.consumer? r.consumer with
  | some c => c.phaseState == .moving && c.recorded == some r.source
  | none => false

/-- The target of a record lies in the allowed set of its consumer (R2, R80, R88). -/
def State.permits (s : State) (r : MoveRecord) : Bool :=
  match s.consumer? r.consumer with
  | some c => c.allowed.get r.target
  | none => false

/-- The map and the move queue agree: 96 sound records; at most 16 sound move records, no consumer named twice, every
target in the consumer's allowed set, only the head in flight; a consumer is MOVING exactly while the record in flight names
it; and the head is never a QUEUED record that stands off its source (R1, R2, R5, R80, R81, R87, R88). -/
abbrev State.movesWf (s : State) : Prop :=
  s.consumers.length = 96 ∧
  (∀ x ∈ s.present, x.2.wf) ∧
  s.queue.records.length ≤ 16 ∧
  (∀ r ∈ s.queue.records, r.wf) ∧
  (s.queue.records.map (·.consumer)).Nodup ∧
  (∀ r ∈ s.queue.records, s.permits r = true) ∧
  (∀ r ∈ s.queue.records.tail, r.state = .queued) ∧
  (∀ r ∈ s.queue.records, r.state ≠ .queued → s.flies r = true) ∧
  (∀ x ∈ s.present, x.2.phaseState = .moving →
    ∃ r ∈ s.queue.records, r.consumer = x.1 ∧ r.state ≠ .queued) ∧
  (∀ r ∈ s.queue.records.head?, s.offSource r = false)

/-- A QUEUED record that may stay in the queue: its consumer is present and not frozen, not held unless the record is
Port C's, and the run state is AUTO if the record is the Engine's (R16, R21, R29, R60). -/
def State.mayWait (s : State) (r : MoveRecord) : Bool :=
  match s.consumer? r.consumer with
  | some c =>
    !s.isFrozen c.segment && (!c.isHeld || r.origin == .portC) && (r.origin != .engine || s.engine.run == .auto)
  | none => false

/-- What the blocks leave in the queue: every QUEUED record may stay there (R16, R19, R29, R30, R60). -/
abbrev State.blockedWf (s : State) : Prop := ∀ r ∈ s.queue.records, r.state = .queued → s.mayWait r = true

/-! ### The mains (R103, R108, R109, R111, R113) -/

/-- A qualifier of a part that is not held: a candidate stands exactly while the pin is away from the accepted level
(R103). -/
abbrev Qualifier.wf (q : Qualifier) : Prop :=
  q.candidate ≠ none ↔ q.accepted ≠ none ∧ q.accepted ≠ some q.pin

/-- The mains state is ABSENT exactly when all phases are LOST, and VALID only with all three PRESENT; the good count
is 0 in ABSENT and DISTURBED, at least 8 in VALID and never above 255; the settings are in range, and the marks and the
previous stamp are held only with their phase (R103, R105, R106, R108, R111, R113). -/
abbrev State.mainsWf (s : State) : Prop :=
  (s.mtu.mains = .absent ↔ s.mtu.source = none) ∧
  (s.mtu.mains = .valid → ∀ p ∈ phases, s.mtu.phasePresent p = true) ∧
  (s.mtu.mains = .absent ∨ s.mtu.mains = .disturbed → s.mtu.good = 0) ∧
  (s.mtu.mains = .valid → 8 ≤ s.mtu.good) ∧ s.mtu.good ≤ 255 ∧
  s.mtu.settings.inRange = true ∧
  (s.mtu.mark2 = true → s.mtu.stamps.l2 ≠ none) ∧ (s.mtu.mark3 = true → s.mtu.stamps.l3 ≠ none) ∧
  (s.mtu.prevL1 ≠ none → s.mtu.stamps.l1 ≠ none) ∧
  (s.held = false → ∀ p ∈ phases, (s.mtu.pins.get p).wf)

/-! ### The feeder as installed, and the policy (R1, R20, R23, R24, R25, R28, R35) -/

/-- A policy set holds every field in its range (R35). -/
abbrev Policy.wf (q : Policy) : Prop :=
  q.weights.length = 8 ∧ ∀ f ∈ List.range 20, (policyRange f).1 ≤ q.field f ∧ q.field f ≤ (policyRange f).2

/-- Both components of a current lie within ± a bound. -/
abbrev Phasor.within (v : Phasor) (bound : Int) : Prop := (-bound ≤ v.x ∧ v.x ≤ bound) ∧ (-bound ≤ v.y ∧ v.y ≤ bound)

/-- The three currents of a head report are within ±20000 dA (R32). -/
abbrev HeadReport.wf (h : HeadReport) : Prop := ∀ p ∈ phases, (h.currents.get p).within 20000

/-- The working set of a round: at most 96 entries, with frozen readings within ±1000 dA; at most eight segments; the
policy and the head report in range (R32, R35, R40, R67). -/
abbrev WorkingSet.wf (w : WorkingSet) : Prop :=
  w.entries.length ≤ 96 ∧ (∀ e ∈ w.entries, e.frozen.within 1000) ∧ w.count ≤ 8 ∧ w.policy.wf ∧ ∀ h ∈ w.head, h.wf

/-- The segment count is 1 to 8 with eight records, their limits are 10 to 1000 A, no freeze stands at or beyond the
count, every present consumer stands on an installed segment at a unit address 1 to 126 that no other holds, with a
cost of at most 15; both policy sets are in range (R1, R20, R23, R24, R25, R28, R35). Readings and frozen readings are within
±1000 dA, a head report within ±20000 dA, and so is what the round in hand has copied of them (R15, R32, R40, R133). -/
abbrev State.feederWf (s : State) : Prop :=
  s.consumers.length = 96 ∧
  (1 ≤ s.segs.count ∧ s.segs.count ≤ 8) ∧ s.segs.segments.length = 8 ∧
  (∀ r ∈ s.segs.segments, 10 ≤ r.limit ∧ r.limit ≤ 1000) ∧
  (∀ r ∈ s.segs.segments.drop s.segs.count, r.frozenAt = none) ∧
  (∀ x ∈ s.present, 1 ≤ x.2.address ∧ x.2.address ≤ 126 ∧ x.2.segment < s.segs.count ∧ x.2.cost ≤ 15) ∧
  (s.present.map (·.2.address)).Nodup ∧
  s.policy.staged.wf ∧ s.policy.active.wf ∧
  (∀ x ∈ s.present, x.2.frozen.within 1000 ∧ ∀ r ∈ x.2.reading, r.value.within 1000) ∧
  (∀ h ∈ s.segs.head, h.wf) ∧ (∀ w ∈ s.engine.work, w.wf)

/-! ### The Arbiter and the transaction in progress (R144, R146, R149, R151) -/

/-- The port whose query the transaction in progress serves, with its consumer (R151). -/
def State.served (s : State) : Option (Port × Nat) :=
  match s.txn? with
  | some t => t.port.map fun p => (p, t.consumer)
  | none => none

/-- A query slot of a part that is not held agrees with the arrival order and with the transaction in progress: the
port waits exactly while it is in the order, and is IN PROGRESS exactly while it is served (R149, R151). -/
def State.slotWf (s : State) (p : Port) : Bool :=
  match (s.arb.slots.get p).stage with
  | .idle => !s.arb.order.contains p && (s.served.map (·.1)) != some p
  | .waiting n => s.arb.order.contains p && (s.served.map (·.1)) != some p && decide (n < 96)
  | .inProgress n => !s.arb.order.contains p && s.served == some (p, n)

/-- The starvation count, the sweep pointer and the sweep count are in range; a sweep or a query in progress is for a
consumer number, and a transaction has a port exactly if it is a query; the arrival order names no port twice, and the slots agree
with it (R144, R146, R149, R151). -/
abbrev State.arbiterWf (s : State) : Prop :=
  s.consumers.length = 96 ∧
  s.arb.starvation ≤ 6 ∧ s.arb.pointer ≤ 96 ∧ s.arb.sweepCount ≤ 7 ∧
  (∀ t ∈ s.txn?, (t.cls = .sweep ∨ t.cls = .query → t.consumer < 96) ∧ (t.port ≠ none ↔ t.cls = .query)) ∧
  s.arb.order.Nodup ∧
  (s.held = false → ∀ p ∈ [Port.a, .b, .c], s.slotWf p = true)

/-! ### Rights (R170) -/

/-- The table of R170: whether a port holds the right a request needs. A command that is no request needs none. -/
def mayAsk (p : Port) : Instr → Bool
  | .writePolicy _ _ _ | .commitPolicy _ | .discardPolicy _ | .start _ | .restart _ => p == .a
  | .stop _ | .requestMove _ _ _ => p == .a || p == .c
  | .installConsumer _ _ _ _ _ _ | .removeConsumer _ _ | .setSegmentCount _ _ | .installSegment _ _ _
  | .setMains _ _ _ _ _ _ _ | .setBus _ _ _ _ => p == .a || p == .c
  | .freeze _ _ | .thaw _ _ | .headReport _ _ _ _ _ _ _ => p == .b
  | .hold _ _ _ | .release _ _ => p == .c
  | _ => true

/-! ### Answers -/

/-- The part when a port has taken a request and shifts out an answer: length, result code, fields (R167, R169). -/
def State.answering (s : State) (p : Port) (r : Result) (fields : List Byte) : State :=
  s.setWindow p (.answered (byteOf (fields.length + 1) :: byteOf r.code :: fields))

end Sys2Proof.Machine
end

