-- ==== Sys2Proof/Certificates/Slice0/Obligations.lean ====
section
/-! DEFINITION. The statements for the provers. `s.takesRequest p = true` is the condition on which a port takes a
request: its window is open with no request taken in it, and the part is not held by RESETN. `s.answering p r fields` is
`s` with the port's answer fixed: length, result code, fields. -/

section
open Sys2Proof Sys2Proof.Machine

/-! ### The machine, the resets and the select windows -/

/-- A step takes the command at the front of the queue, the block idles on an empty queue (the model's choice, log 1),
and no word spells a command (log 17). -/
def Obligations.StepTakesTheFrontCommand : Prop :=
  ∀ (s : State) (c : Instr) (rest : List Instr) (nbits w : Nat),
    step { s with pending := c :: rest } = exec c { s with pending := rest } ∧
    step { s with pending := [] } = .next { s with pending := [] } ∧
    decodeTableWord nbits w = none ∧ s.withFetchWord nbits w = s

/-- No command stops the part, and none touches the queue of waiting commands (log 2). -/
def Obligations.EveryCommandAnswersANextState : Prop :=
  ∀ (i : Instr) (s : State), ∃ t, exec i s = .next t ∧ t.pending = s.pending

/-- POR: every block's value after POR (R1, R23, R25, R28, R32, R35, R58, R63, R82, R111, R136, R179); the reset state
is the state that POR leaves. The told time (log 5) and the levels of the pins (log 6) are the model's choices. -/
def Obligations.PowerOnResetLeavesTheStatedValues : Prop :=
  (∀ (s : State) (t : Time),
    let defaults : Policy := ⟨1500, 1, 40000, 10000, [1, 1, 1, 1, 1, 1, 1, 1], 10, 6, 2880, 2, 4, 4, 0, 2⟩
    let port (q : PortState) : PortState := ⟨0x100, 0, if q.window = .closed then .closed else .abandoned⟩
    exec (.powerOnReset t) s = .next
      { time := t, held := false, restartDue := false
        consumers := List.replicate 96 none
        segs := ⟨1, List.replicate 8 ⟨1000, none, none⟩, none⟩
        policy := ⟨defaults, defaults, false⟩
        engine := ⟨.off, 0, false, 0, 0, none, none⟩
        queue := ⟨[], 0⟩
        mtu :=
          { pins := ⟨⟨s.mtu.pins.l1.pin, t, none, none⟩, ⟨s.mtu.pins.l2.pin, t, none, none⟩,
              ⟨s.mtu.pins.l3.pin, t, none, none⟩⟩
            stamps := ⟨none, none, none⟩, mark2 := false, mark3 := false, prevL1 := none
            mains := .absent, good := 0, lastFault := none, figures := none, lastInternal := t
            settings := ⟨50, 400, 700, 50, 10⟩ }
        fbc := ⟨true, .r19200, .joining t, 0, none, s.fbc.frx⟩
        arb := ⟨0, 0, 0, ⟨⟨.idle, none⟩, ⟨.idle, none⟩, ⟨.idle, none⟩⟩, []⟩
        journal := ⟨[], 0, ⟨0, 0, 0⟩⟩
        ports := ⟨port s.ports.a, port s.ports.b, port s.ports.c⟩
        freeCount := s.freeCount, pending := s.pending }) ∧
  exec (.powerOnReset 0) State.reset = .next State.reset

/-- RESETN low holds the part: windows are abandoned, a due RESTART and a transaction in progress are dropped (R177,
R178). That they go at the end of the 10 µs, and the stage that is left, is the model's choice (log 14). RESETN high after the hold is the warm reset, with every
block's warm reset values (R2, R13, R28, R32, R35, R79, R101, R120, R139, R157, R165, R179). -/
def Obligations.ResetHoldEndsInAWarmReset : Prop :=
  ∀ (s : State) (t : Time),
    let shut (w : Window) : Window := if w = .closed then .closed else .abandoned
    (s.held = false → exec (.resetnLow t) s = .next
      { s with
        time := t, held := true, restartDue := false
        fbc := { s.fbc with link := if s.txn?.isSome then .online (.quiet t t) else s.fbc.link }
        ports := s.ports.map fun q => { q with window := shut q.window } }) ∧
    (s.held = true → exec (.resetnLow t) s = .next { s with time := t }) ∧
    (s.held = false → exec (.warmReset t) s = .next { s with time := t }) ∧
    (s.held = true → exec (.warmReset t) s = .next
      { s with
        time := t, held := false, restartDue := false
        consumers := s.consumers.map (Option.map fun c =>
          { c with
            phaseState := if c.phaseState = .unknown then .unknown else .uncertain
            reading := none, frozen := ⟨0, 0⟩, lockout := false, fault := false, hold := none, health := 0
            recheck := true, tried := false })
        segs := { s.segs with segments := s.segs.segments.map fun r => { r with frozenAt := none }, head := none }
        policy := { s.policy with armed := false }
        engine := { s.engine with run := .off, timer := 0, expiryDue := false, work := none }
        queue := { s.queue with records := [] }
        mtu :=
          { pins := ⟨⟨s.mtu.pins.l1.pin, t, none, none⟩, ⟨s.mtu.pins.l2.pin, t, none, none⟩,
              ⟨s.mtu.pins.l3.pin, t, none, none⟩⟩
            stamps := ⟨none, none, none⟩, mark2 := false, mark3 := false, prevL1 := none
            mains := .absent, good := 0, lastFault := none, figures := none, lastInternal := t
            settings := s.mtu.settings }
        fbc := { s.fbc with link := if s.fbc.enabled then .joining t else .off }
        arb := ⟨0, 0, 0, ⟨⟨.idle, none⟩, ⟨.idle, none⟩, ⟨.idle, none⟩⟩, []⟩
        ports := s.ports.map fun q => ⟨0x100, 0, shut q.window⟩ })

/-- While RESETN holds the part, no request is taken, the attention lines and FDE are low, FTX is at mark, and no command
but a reset, a select line or a pin that moves changes anything beyond the told time (R178; FTX in the hold is the model's,
log 20). -/
def Obligations.HeldPartTakesNothing : Prop :=
  ∀ (s : State) (i : Instr), s.held = true →
    (∀ p, s.takesRequest p = false ∧ s.attention p = false) ∧ s.fde = false ∧ (∀ k, s.ftx k = true) ∧
    (match i with
      | .powerOnReset _ | .warmReset _ | .selectWindowOpen _ | .selectWindowClose _ _ | .zcPinChange _ _ _ => True
      | .frxAtSpace ⟨stays, t⟩ => exec i s = .next
          { s with time := t, fbc := { s.fbc with frx := if stays then .space else .mark } }
      | _ => ∃ t, exec i s = .next { s with time := t })

/-- Select windows open and close (R166), and a RESTART of Port A is answered OK at once and taken as Port A's window
closes (R177, R179). A port shifts out 00h while it receives, then its answer, then 00h (R166, R167). That a window opened
during a hold is abandoned is the model's choice (log 14), and so is the 00h of an abandoned window after the hold
(log 11). -/
def Obligations.SelectWindowsOpenAndClose : Prop :=
  ∀ (s : State) (p : Port) (t : Time),
    let withWindow (q : Port) (w : Window) : PerPort PortState := s.ports.set q { s.ports.get q with window := w }
    (s.window p = .closed → exec (.selectWindowOpen p) s = .next
      { s with ports := withWindow p (if s.held then .abandoned else .receiving) }) ∧
    (s.window p ≠ .closed → exec (.selectWindowOpen p) s = .next s) ∧
    (p ≠ .a ∨ s.restartDue = false ∨ s.held = true → exec (.selectWindowClose p t) s = .next
      { s with time := t, ports := withWindow p .closed }) ∧
    (s.takesRequest .a = true → exec (.restart .a) s = .next
      ({ s with restartDue := true }.answering .a .ok [])) ∧
    (s.restartDue = true → s.held = false → ∃ u,
      exec (.selectWindowClose .a t) s = .next u ∧
      exec (.warmReset t) { s with held := true, ports := withWindow .a .closed } = .next u) ∧
    (∀ k, (s.window p).shiftedOut k = match s.window p with
      | .answered bytes => if h : k < bytes.length then bytes[k] else 0
      | _ => 0)

/-! ### What every request shares -/

/-- The port reads a code, a count n and exactly n parameter bytes, and ignores what follows; bytes that are no complete
request have no effect (R166). A code that the catalogue does not hold is answered UNKNOWN, a known code with a wrong count
FORMAT, and neither has any other effect (R167; a command that spells a request of the catalogue is no event here, log 11).
A request whose port takes none (no window open, a request already taken in it, the part held) changes nothing but the told
time, whichever request it is (R166, R178). -/
def Obligations.RequestsOutsideTheRulesHaveNoEffect : Prop :=
  (∀ (s : State) (p : Port) (code count : Byte) (params after : List Byte), s.takesRequest p = true →
    params.length = count.toNat →
    let reply := exec (.unknownRequest p code (count :: (params ++ after))) s
    (catalogueCount code = none → reply = .next (s.setWindow p (.answered [1, 1]))) ∧
    (∀ n, catalogueCount code = some n → count.toNat ≠ n → reply = .next (s.setWindow p (.answered [1, 2]))) ∧
    (catalogueCount code = some count.toNat → reply = .next s)) ∧
  (∀ (s : State) (p : Port) (code : Byte) (rest : List Byte),
    rest = [] ∨ (∃ count params, rest = count :: params ∧ params.length < count.toNat) →
    exec (.unknownRequest p code rest) s = .next s) ∧
  (∀ (s : State) (i : Instr) (p : Port),
    requestPort i = some p ∨ (∃ code rest, i = .unknownRequest p code rest) →
    s.takesRequest p = false → exec i s = .next { s with time := requestTime s.time i })

/-- A request without its right is answered RIGHTS, whatever its parameters, and changes nothing else (R170). -/
def Obligations.RequestsWithoutTheirRightAreRefused : Prop :=
  ∀ (s : State) (i : Instr) (p : Port), requestPort i = some p → mayAsk p i = false → s.takesRequest p = true →
    exec i s = .next ({ s with time := requestTime s.time i }.setWindow p (.answered [1, 3]))

/-- The catalogue of section 10.3: the bytes that spell a request spell that request and no other, every code and count
that the catalogue holds spells one, and the count is the catalogue's. In a window's stream, shifted in bit by bit with the
most significant bit first, they come to that request whatever bytes follow them, and to nothing while one of them is
missing (R166). -/
def Obligations.RequestCodingRoundTrips : Prop :=
  (∀ (i : Instr) (code : Byte) (params : List Byte) (d : Time), requestBytes i = some (code, params) →
    ∃ p, requestPort i = some p ∧ requestOf p (requestTime d i) code params = some i ∧
      catalogueCount code = some params.length) ∧
  (∀ (p : Port) (t : Time) (code : Byte) (params : List Byte) (i : Instr),
    requestOf p t code params = some i → requestBytes i = some (code, params) ∧ requestPort i = some p) ∧
  (∀ (p : Port) (t : Time) (code : Byte) (params : List Byte),
    catalogueCount code = some params.length → (requestOf p t code params).isSome = true) ∧
  (∀ (i : Instr) (stream after : List Byte) (p : Port) (d : Time), requestStream i = some stream →
    requestPort i = some p →
    windowRequest p (requestTime d i) (bytesOfBits ((stream ++ after).flatMap bitsOfByte)) = some i ∧
    ∀ k < stream.length, windowRequest p (requestTime d i) (stream.take k) = none)

/-! ### Reads -/

/-- READ STATUS, READ ROUND, READ QUEUE, READ MAINS, READ POLICY and READ QUERY: the fields of R171 (counted from the
records as they stand), R75, R102, R116, R35 and R153, and nothing changes but the answer (the codings that R168 leaves
open: log 10). -/
def Obligations.ReadsAnswerTheirOwnersFields : Prop :=
  ∀ (s : State) (p : Port), s.takesRequest p = true →
    (let records := s.consumers.filterMap id
    exec (.readStatus p) s = .next (s.answering p .ok
      (u1 (if s.engine.run = .off then 0 else 1) ++ word4 s.engine.round ++ yesNo s.policy.armed ++ u1 s.segs.count
        ++ u1 s.mtu.mains.code ++ u1 s.fbc.link.code ++ yesNo s.fbc.enabled ++ u2 s.fbc.rate.hundreds
        ++ u2 s.fbc.contentions ++ optField word4 s.fbc.lastContention ++ u1 s.queue.records.length
        ++ u1 records.length ++ u1 (records.countP fun c => c.phaseState == .unknown)
        ++ u1 (records.countP fun c => c.phaseState == .uncertain)
        ++ u2 (s.ports.get p).flags.toNat ++ u2 (s.ports.get p).mask.toNat))) ∧
    (exec (.readRound p) s = .next (s.answering p .ok
      (match s.engine.summary with
        | none => [0]
        | some r =>
          1 :: (word4 r.round ++ u1 r.outcome.code ++ u6 r.score ++ u2 r.examined ++ u1 r.posted ++ u1 r.withdrawn
            ++ yesNo r.headStale ++ optField u4 (r.residuals.map (·.l1)) ++ optField u4 (r.residuals.map (·.l2))
            ++ optField u4 (r.residuals.map (·.l3)))))) ∧
    (exec (.readQueue p) s = .next (s.answering p .ok
      (u1 s.queue.records.length ++ word2 s.queue.nextId ++ s.queue.records.flatMap fun r =>
        word2 r.id ++ u1 r.consumer ++ u1 (phaseCode r.source) ++ u1 (phaseCode r.target) ++ u1 r.origin.code
          ++ word4 r.queuedRound ++ u1 r.state.code ++ u1 r.issueAttempts ++ u1 r.confirmAttempts
          ++ optField u1 r.deadTime))) ∧
    (exec (.readMains p) s = .next (s.answering p .ok
      (u1 s.mtu.mains.code ++ u1 s.mtu.good
        ++ (phases.flatMap fun ph =>
            u1 (if s.mtu.phasePresent ph then 0 else 1) ++ optField word4 (s.mtu.stamps.get ph))
        ++ optField (fun f : LastFault =>
            (match f.cause with
              | .period => [0]
              | .spacing => [1]
              | .reversed => [2]
              | .loss ph => [3, byteOf (phaseCode ph)]) ++ word4 f.round ++ word4 f.time) s.mtu.lastFault
        ++ optField (fun f : Figures => u2 f.period ++ u2 f.d2 ++ u2 f.d3 ++ u2 f.frequency ++ word4 f.round)
            s.mtu.figures
        ++ u1 (match s.mtu.source with
            | some ph => phaseCode ph - 1
            | none => 3)
        ++ u1 s.mtu.settings.frequency ++ u2 s.mtu.settings.band ++ u2 s.mtu.settings.tol
        ++ u1 s.mtu.settings.settle ++ u1 s.mtu.settings.qualify))) ∧
    (let set (q : Policy) : List Byte :=
      u2 q.roundPeriod ++ u1 q.movesPerRound ++ u4 q.gainMin ++ u4 q.costUnit
        ++ ((List.range 8).flatMap fun k => u1 (q.weights.getD k 0))
        ++ u1 q.dwell ++ u1 q.opsLimit ++ u2 q.windowLength ++ u1 q.staleness ++ u1 q.queueWait ++ u1 q.deadTime
        ++ u2 q.headTolerance ++ u1 q.headAge
    exec (.readPolicy p) s = .next (s.answering p .ok
      (set s.policy.staged ++ set s.policy.active ++ yesNo s.policy.armed))) ∧
    (exec (.readQuery p) s = .next (s.answering p .ok
      ((match (s.arb.slots.get p).stage with
        | .idle => [0, 0]
        | .waiting n => [1, 1, byteOf n]
        | .inProgress n => [2, 1, byteOf n])
        ++ (match (s.arb.slots.get p).result with
          | none => [0]
          | some (.good n a r round) =>
            [1, 0, byteOf n, byteOf a, byteOf (phaseCode0 r.phase)] ++ i2 r.value.x ++ i2 r.value.y ++ yesNo r.lockout
              ++ yesNo r.fault ++ [r.tag] ++ word4 round
          | some (.failed n a k round) => [1, 1, byteOf n, byteOf a, byteOf k.code] ++ word4 round
          | some (.absent n round) => [1, 2, byteOf n] ++ word4 round))))

/-- READ CONSUMER: RANGE, ABSENT, or R172's answer: every field in the order of R2's table, then the health level,
whether the consumer is frozen, and the move id of a record that names it (the codings that R168 leaves open: log 10). -/
def Obligations.ReadConsumerAnswersTheRecord : Prop :=
  ∀ (s : State) (p : Port) (n : Byte), s.takesRequest p = true →
    (96 ≤ n.toNat → exec (.readConsumer p n) s = .next (s.answering p .range [])) ∧
    (n.toNat < 96 → s.consumer? n.toNat = none →
      exec (.readConsumer p n) s = .next (s.answering p .absent [])) ∧
    (∀ c, n.toNat < 96 → s.consumer? n.toNat = some c →
      exec (.readConsumer p n) s = .next (s.answering p .ok
        (u1 c.address ++ u1 c.segment
          ++ u1 ((if c.allowed.l1 then 1 else 0) + (if c.allowed.l2 then 2 else 0) + (if c.allowed.l3 then 4 else 0))
          ++ u1 c.cost ++ u1 (phaseCode0 c.recorded) ++ u1 c.phaseState.code
          ++ optField (fun r : Reading => i2 r.value.x ++ i2 r.value.y ++ word4 r.round) c.reading
          ++ i2 c.frozen.x ++ i2 c.frozen.y ++ yesNo c.lockout ++ yesNo c.fault ++ u1 c.ops
          ++ optField word4 c.lastMove
          ++ (match c.hold with
            | none => [0]
            | some .indefinite => [1]
            | some (.until r) => 2 :: word4 r)
          ++ u1 c.health ++ u1 (if c.recheck then 0 else 1) ++ u1 (if c.tried then 0 else 1)
          ++ u1 (if c.health ≤ 39 then 0 else if c.health ≤ 119 then 1 else 2)
          ++ yesNo ((s.segs.segments.take (c.segment + 1)).any fun r => r.frozenAt.isSome)
          ++ optField word2 ((s.queue.records.find? fun r => r.consumer == n.toNat).map (·.id)))))

/-- READ SEGMENT: RANGE, or the limit, the freeze, the published result, for k = 0 the head report with its age modulo
2^32, and the segment count (R27, R34; the order of the fields and the place of the age: log 10). -/
def Obligations.ReadSegmentAnswersTheSegment : Prop :=
  ∀ (s : State) (p : Port) (k : Byte), s.takesRequest p = true →
    (8 ≤ k.toNat → exec (.readSegment p k) s = .next (s.answering p .range [])) ∧
    (∀ r, k.toNat < 8 → s.segs.segments[k.toNat]? = some r →
      exec (.readSegment p k) s = .next (s.answering p .ok
        (u2 r.limit ++ optField word4 r.frozenAt
          ++ optField (fun q : SegResult =>
              word4 q.round ++ i4 q.neutral.x ++ i4 q.neutral.y ++ u6 q.q ++ u4 q.estimate
                ++ (phases.flatMap fun ph => i4 (q.sums.get ph).x ++ i4 (q.sums.get ph).y)
                ++ (phases.flatMap fun ph => u4 (q.magnitudes.get ph))
                ++ (phases.flatMap fun ph => yesNo (q.overLimit.get ph))) r.result
          ++ (if k.toNat = 0 then
              optField (fun h : HeadReport =>
                (phases.flatMap fun ph => i2 (h.currents.get ph).x ++ i2 (h.currents.get ph).y)
                  ++ word4 h.stamp ++ word4 (s.engine.round - h.stamp)) s.segs.head
            else [])
          ++ u1 s.segs.count)))

/-- READ JOURNAL: with the cursor at the next sequence number EMPTY with that number, else the one entry at the cursor
with the count still unread after it, the cursor moving by 1; no flag changes (R158, R162, R163). How the fields that only
one kind of entry has are laid out in the answer is the model's choice (log 10). -/
def Obligations.ReadJournalAnswersTheEntryAtTheCursor : Prop :=
  ∀ (s : State) (p : Port), s.takesRequest p = true →
    let at_ := s.journal.cursors.get p
    (at_ = s.journal.next → exec (.readJournal p) s = .next (s.answering p .empty (word2 s.journal.next))) ∧
    (at_ ≠ s.journal.next → s.journal.wf → ∃ e ∈ s.journal.ring, e.seq = at_ ∧
      exec (.readJournal p) s = .next
        ({ s with journal := { s.journal with cursors := s.journal.cursors.set p (at_ + 1) } }.answering p .ok
          (word2 e.seq
            ++ u1 (match e.kind with
              | .moveEnd _ _ _ _ => 0
              | .observed _ => 1)
            ++ u1 e.consumer ++ u1 (phaseCode0 e.phaseBefore) ++ u1 (phaseCode e.phaseAfter) ++ word4 e.round
            ++ (match e.kind with
              | .moveEnd id origin outcome verdict =>
                word2 id ++ u1 origin.code ++ u1 outcome.code ++ (match verdict with
                  | some v => u1 v.code
                  | none => [])
              | .observed cause => u1 cause.code)
            ++ u1 ((s.journal.next - at_).toNat - 1))))

/-! ### Flags, mask, attention -/

/-- CLEAR FLAGS clears the named flags of the sending port alone, and a cause of a named flag may come before it or
after it (R174). -/
def Obligations.ClearFlagsClearsTheNamedFlags : Prop :=
  ∀ (s : State) (p : Port) (set : BitVec 16), s.takesRequest p = true →
    let left := (s.ports.get p).flags &&& ~~~(set.setWidth 9)
    (512 ≤ set.toNat → exec (.clearFlags p set) s = .next (s.answering p .range [])) ∧
    (set.toNat < 512 → exec (.clearFlags p set) s = .next
      ({ s with ports := s.ports.set p { s.ports.get p with flags := left } }.answering p .ok (u2 left.toNat))) ∧
    (∀ f : Flag, set.toNat < 512 → set.getLsbD f.bit = true →
      (∃ t, exec (.clearFlags p set) (s.raise p f) = .next t ∧ t.flagOn p f = false) ∧
      (∃ t, exec (.clearFlags p set) s = .next t ∧ (t.raise p f).flagOn p f = true))

/-- SET MASK sets the sending port's mask and no flag (R175); the attention line of a part that is not held is high
exactly while a set flag is in the mask, at every moment and whatever the window (R176). -/
def Obligations.SetMaskDrivesTheAttentionLine : Prop :=
  (∀ (s : State) (p : Port) (set : BitVec 16), s.takesRequest p = true →
    (512 ≤ set.toNat → exec (.setMask p set) s = .next (s.answering p .range [])) ∧
    (set.toNat < 512 → ∃ t, exec (.setMask p set) s = .next t ∧
      t = { s with ports := s.ports.set p { s.ports.get p with mask := set.setWidth 9 } }.answering p .ok
        (u2 set.toNat) ∧
      (t.attention p = true ↔ ∃ f : Flag, s.flagOn p f = true ∧ set.getLsbD f.bit = true))) ∧
  (∀ (s : State) (p q : Port) (f : Flag) (w : Window), s.held = false →
    (s.attention p = true ↔ ∃ g : Flag, s.flagOn p g = true ∧ (s.ports.get p).mask.getLsbD g.bit = true) ∧
    (s.raiseAll f).attention p = (s.attention p || (s.ports.get p).mask.getLsbD f.bit) ∧
    (s.setWindow q w).attention p = s.attention p)

/-! ### Policy and run state -/

/-- WRITE POLICY stores the value, clamped into the field's range, in the pending set and changes nothing else (R36;
ranges of R35). The premise on the weights is part of the invariant `State.feederWf`. -/
def Obligations.WritePolicyStoresTheClampedValue : Prop :=
  ∀ (s : State) (p : Port) (f : Byte) (v : BitVec 32), s.takesRequest p = true →
    let ranges : List (Nat × Nat) :=
      [(50, 60000), (1, 4), (0, 4294967295), (0, 16777215), (0, 15), (0, 15), (0, 15), (0, 15), (0, 15), (0, 15),
        (0, 15), (0, 15), (1, 255), (1, 63), (1, 65535), (1, 15), (1, 255), (1, 20), (0, 5000), (1, 15)]
    (p ≠ .a → exec (.writePolicy p f v) s = .next (s.answering p .rights [])) ∧
    (p = .a → 20 ≤ f.toNat → exec (.writePolicy p f v) s = .next (s.answering p .range [])) ∧
    (∀ lo hi, p = .a → ranges[f.toNat]? = some (lo, hi) → s.policy.staged.weights.length = 8 →
      let stored := max lo (min hi v.toNat)
      ∃ q : Policy,
        exec (.writePolicy p f v) s = .next
          ({ s with policy := { s.policy with staged := q } }.answering p .ok
            (if hi < 2 ^ 8 then u1 stored else if hi < 2 ^ 16 then u2 stored else u4 stored)) ∧
        q.weights.length = 8 ∧
        ∀ g < 20, q.field g = if g = f.toNat then stored else s.policy.staged.field g)

/-- COMMIT POLICY: at once in OFF, armed in AUTO, and an armed commit is applied first thing at a latch, whatever the run
state and whatever STOP came between; the active set changes there and at POR alone (R37). -/
def Obligations.CommitPolicyMakesThePendingSetActive : Prop :=
  (∀ (s : State) (p : Port), s.takesRequest p = true →
    (p ≠ .a → exec (.commitPolicy p) s = .next (s.answering p .rights [])) ∧
    (p = .a → s.engine.run = .off → exec (.commitPolicy p) s = .next
      ({ s with policy := ⟨s.policy.staged, s.policy.staged, false⟩ }.answering p .ok [])) ∧
    (p = .a → s.engine.run = .auto → exec (.commitPolicy p) s = .next
      ({ s with policy := { s.policy with armed := true } }.answering p .ok []))) ∧
  (∀ s : State, s.held = false → s.engine.expiryDue = true → s.engine.work = none →
    ∃ t w, exec .roundTimerExpiry s = .next t ∧ t.engine.work = some w ∧ w.policy = t.policy.active ∧
      t.policy = if s.policy.armed then ⟨s.policy.staged, s.policy.staged, false⟩ else s.policy) ∧
  (∀ (s t : State) (p : Port), exec (.stop p) s = .next t → t.policy = s.policy) ∧
  (∀ (i : Instr) (s t : State), exec i s = .next t → t.policy.active ≠ s.policy.active →
    (∃ u, i = .powerOnReset u) ∨ (∃ p, i = .commitPolicy p ∧ s.engine.run = .off) ∨
    (t.engine.round = s.engine.round + 1 ∧ s.policy.armed = true ∧ t.policy.active = s.policy.staged))

/-- DISCARD POLICY copies the active set into the pending set and disarms a commit, in any run state, and against a
latch each order has its outcome (R38). -/
def Obligations.DiscardPolicyCopiesTheActiveSet : Prop :=
  (∀ (s : State) (p : Port), s.takesRequest p = true →
    (p ≠ .a → exec (.discardPolicy p) s = .next (s.answering p .rights [])) ∧
    (p = .a → exec (.discardPolicy p) s = .next
      ({ s with policy := ⟨s.policy.active, s.policy.active, false⟩ }.answering p .ok []))) ∧
  (∀ s : State, s.takesRequest .a = true → s.engine.expiryDue = true → s.engine.work = none → s.policy.armed = true →
    (∃ t u, exec (.discardPolicy .a) s = .next t ∧ exec .roundTimerExpiry t = .next u ∧
      u.policy = ⟨s.policy.active, s.policy.active, false⟩) ∧
    (∃ t u, exec .roundTimerExpiry s = .next t ∧ exec (.discardPolicy .a) t = .next u ∧
      t.policy = ⟨s.policy.staged, s.policy.staged, false⟩ ∧ u.policy = t.policy))

/-- START: AUTO, and nothing else (no round, no timer); a round latched in OFF keeps its outcome OFF and posts nothing
(R59). -/
def Obligations.StartPutsThePartIntoAuto : Prop :=
  (∀ (s : State) (p : Port), s.takesRequest p = true →
    (p ≠ .a → exec (.start p) s = .next (s.answering p .rights [])) ∧
    (p = .a → exec (.start p) s = .next
      ({ s with engine := { s.engine with run := .auto } }.answering p .ok []))) ∧
  (∀ s : State, s.held = false → s.engine.expiryDue = true → s.engine.work = none →
    ∃ t w, exec .roundTimerExpiry s = .next t ∧ t.engine.work = some w ∧ w.run = s.engine.run) ∧
  (∀ (s : State) (w : WorkingSet), s.held = false → s.engine.work = some w → w.run = .off →
    ∃ t sum, exec .completion s = .next t ∧ t.queue = s.queue ∧ t.engine.summary = some sum ∧
      sum.outcome = .off ∧ sum.posted = 0)

/-- STOP: in AUTO the run state becomes OFF and every QUEUED ENGINE record ends CANCELLED, in OFF nothing changes (R60,
R99; what a removal writes stands in `RemovalsWriteTheJournalInOrder`). -/
def Obligations.StopCancelsTheEnginesMoves : Prop :=
  ∀ (s : State) (p : Port), s.takesRequest p = true → p ≠ .b →
    (s.engine.run = .off → exec (.stop p) s = .next (s.answering p .ok [])) ∧
    (s.engine.run = .auto → exec (.stop p) s = .next
      (({ s with engine := { s.engine with run := .off } }.removeQueued (fun r => r.origin == Origin.engine)
        .cancelled).answering p .ok []))

/-! ### Segments, freezes, the head report -/

/-- SET SEGMENT COUNT and INSTALL SEGMENT: their checks in order, then the count (R24), and the limit clamped into
10..1000 A (R25). -/
def Obligations.SegmentsAreInstalledInRange : Prop :=
  ∀ (s : State) (p : Port) (c k : Byte) (limit : BitVec 16), s.takesRequest p = true → p ≠ .b →
    let used := (∃ r ∈ s.consumers.filterMap id, c.toNat ≤ r.segment) ∨
      ∃ r ∈ s.segs.segments.drop c.toNat, r.frozenAt ≠ none
    (c.toNat < 1 ∨ 8 < c.toNat → exec (.setSegmentCount p c) s = .next (s.answering p .range [])) ∧
    (1 ≤ c.toNat → c.toNat ≤ 8 → s.engine.run = .auto →
      exec (.setSegmentCount p c) s = .next (s.answering p .state [])) ∧
    (1 ≤ c.toNat → c.toNat ≤ 8 → s.engine.run = .off → used →
      exec (.setSegmentCount p c) s = .next (s.answering p .conflict [])) ∧
    (1 ≤ c.toNat → c.toNat ≤ 8 → s.engine.run = .off → ¬used →
      exec (.setSegmentCount p c) s = .next
        ({ s with segs := { s.segs with count := c.toNat } }.answering p .ok [c])) ∧
    (8 ≤ k.toNat → exec (.installSegment p k limit) s = .next (s.answering p .range [])) ∧
    (k.toNat < 8 → s.engine.run = .auto → exec (.installSegment p k limit) s = .next (s.answering p .state [])) ∧
    (∀ r, k.toNat < 8 → s.engine.run = .off → s.segs.segments[k.toNat]? = some r →
      let stored := max 10 (min 1000 limit.toNat)
      exec (.installSegment p k limit) s = .next
        ({ s with segs :=
            { s.segs with segments := s.segs.segments.set k.toNat { r with limit := stored } } }.answering p .ok
          (u2 stored)))

/-- FREEZE: RANGE from the segment count on; else the segment is frozen with the current round, or keeps the placed round
of the freeze that stands, and every QUEUED record whose consumer is at the segment or beyond ends CANCELLED (R28, R29). -/
def Obligations.FreezeCancelsTheMovesBeyondIt : Prop :=
  ∀ (s : State) (k : Byte), s.takesRequest .b = true →
    (s.segs.count ≤ k.toNat → exec (.freeze .b k) s = .next (s.answering .b .range [])) ∧
    (∀ r, k.toNat < s.segs.count → s.segs.segments[k.toNat]? = some r →
      let placed := r.frozenAt.getD s.engine.round
      exec (.freeze .b k) s = .next
        (({ s with segs :=
            { s.segs with segments := s.segs.segments.set k.toNat { r with frozenAt := some placed } } }.removeQueued
          (fun m => match s.consumer? m.consumer with
            | some c => decide (k.toNat ≤ c.segment)
            | none => false) .cancelled).answering .b .ok (word4 placed)))

/-- THAW removes the freeze of its own segment alone and restores nothing (R31). -/
def Obligations.ThawRemovesOnlyItsOwnFreeze : Prop :=
  ∀ (s : State) (p : Port) (k : Byte), s.takesRequest p = true →
    (p ≠ .b → exec (.thaw p k) s = .next (s.answering p .rights [])) ∧
    (p = .b → s.segs.count ≤ k.toNat → exec (.thaw p k) s = .next (s.answering p .range [])) ∧
    (∀ r, p = .b → k.toNat < s.segs.count → s.segs.segments[k.toNat]? = some r → ∃ t,
      exec (.thaw p k) s = .next t ∧
      t = { s with segs :=
          { s.segs with segments := s.segs.segments.set k.toNat { r with frozenAt := none } } }.answering p .ok [] ∧
      (r.frozenAt = none → t = s.answering p .ok []) ∧
      (∀ g, t.isFrozen g = true ↔
        ∃ j q, j ≤ g ∧ j ≠ k.toNat ∧ s.segs.segments[j]? = some q ∧ q.frozenAt ≠ none))

/-- HEAD REPORT: the six components clamped to ±20000 and the stamp replace the report, in any run state (R32). -/
def Obligations.HeadReportIsClampedAndStamped : Prop :=
  ∀ (s : State) (x1 y1 x2 y2 x3 y3 : BitVec 16), s.takesRequest .b = true →
    let c (v : BitVec 16) : Int := max (-20000) (min 20000 v.toInt)
    exec (.headReport .b x1 y1 x2 y2 x3 y3) s = .next
      ({ s with segs := { s.segs with
          head := some ⟨⟨⟨c x1, c y1⟩, ⟨c x2, c y2⟩, ⟨c x3, c y3⟩⟩, s.engine.round⟩ } }.answering .b .ok
        (word4 s.engine.round))

/-! ### Consumers, holds, manual moves, queries -/

/-- INSTALL CONSUMER: its checks in order, then a fresh record with the installed values and R2's After INSTALL column;
a transaction granted for n before it no longer reaches the record (R3, R20), and the round in hand knows the record as
replaced (R22; the mark is the model's, log 21). -/
def Obligations.InstallConsumerMakesAFreshRecord : Prop :=
  ∀ (s : State) (p : Port) (n address segment allowed cost : Byte), s.takesRequest p = true → p ≠ .b →
    let ranged := n.toNat < 96 ∧ 1 ≤ address.toNat ∧ address.toNat ≤ 126 ∧ segment.toNat < s.segs.count ∧
      1 ≤ allowed.toNat ∧ allowed.toNat ≤ 7 ∧ cost.toNat ≤ 15
    let moving := ∃ r ∈ s.queue.records, r.consumer = n.toNat
    let taken := ∃ m c, s.consumer? m = some c ∧ m ≠ n.toNat ∧ c.address = address.toNat
    let known (w : WorkingSet) : WorkingSet := { w with replaced := w.replaced.insert n.toNat }
    let mark (x : Txn) : Txn := if x.consumer = n.toNat then { x with sameRecord := false } else x
    let link : Link := match s.fbc.link with
      | .online (.sending x) => .online (.sending (mark x))
      | .online (.awaiting x a) => .online (.awaiting (mark x) a)
      | .online (.receiving x b) => .online (.receiving (mark x) b)
      | l => l
    let reply := exec (.installConsumer p n address segment allowed cost) s
    (¬ranged → reply = .next (s.answering p .range [])) ∧
    (ranged → s.engine.run = .auto → reply = .next (s.answering p .state [])) ∧
    (ranged → s.engine.run = .off → moving → reply = .next (s.answering p .busy [])) ∧
    (ranged → s.engine.run = .off → ¬moving → taken → reply = .next (s.answering p .conflict [])) ∧
    (ranged → s.engine.run = .off → ¬moving → ¬taken →
      reply = .next
        ({ s with
          consumers := s.consumers.set n.toNat (some
            { address := address.toNat, segment := segment.toNat
              allowed := ⟨allowed.getLsbD 0, allowed.getLsbD 1, allowed.getLsbD 2⟩, cost := cost.toNat
              recorded := none, phaseState := .unknown, reading := none, frozen := ⟨0, 0⟩, lockout := false
              fault := false, ops := 0, lastMove := none, hold := none, health := 0, recheck := true, tried := false })
          engine := { s.engine with work := s.engine.work.map known }
          fbc := { s.fbc with link := link } }.answering p .ok []))

/-- REMOVE CONSUMER: its checks in order, then the record is absent, every WAITING query for it completes ABSENT with
QUERY raised, a transaction granted for n no longer reaches the map (R3, R21, R152), and the round in hand knows the record
as replaced (R22; the mark is the model's, log 21). -/
def Obligations.RemoveConsumerMakesTheRecordAbsent : Prop :=
  ∀ (s : State) (p : Port) (n : Byte), s.takesRequest p = true → p ≠ .b →
    let moving := ∃ r ∈ s.queue.records, r.consumer = n.toNat
    let known (w : WorkingSet) : WorkingSet := { w with replaced := w.replaced.insert n.toNat }
    let mark (x : Txn) : Txn := if x.consumer = n.toNat then { x with sameRecord := false } else x
    let link : Link := match s.fbc.link with
      | .online (.sending x) => .online (.sending (mark x))
      | .online (.awaiting x a) => .online (.awaiting (mark x) a)
      | .online (.receiving x b) => .online (.receiving (mark x) b)
      | l => l
    let reply := exec (.removeConsumer p n) s
    (96 ≤ n.toNat → reply = .next (s.answering p .range [])) ∧
    (n.toNat < 96 → s.engine.run = .auto → reply = .next (s.answering p .state [])) ∧
    (n.toNat < 96 → s.engine.run = .off → s.consumer? n.toNat = none →
      reply = .next (s.answering p .absent [])) ∧
    (∀ c, n.toNat < 96 → s.engine.run = .off → s.consumer? n.toNat = some c → moving →
      reply = .next (s.answering p .busy [])) ∧
    (∀ c, n.toNat < 96 → s.engine.run = .off → s.consumer? n.toNat = some c → ¬moving →
      let waits (q : Port) : Bool := (s.arb.slots.get q).stage == .waiting n.toNat
      let slot (q : Port) : Slot :=
        if waits q then ⟨.idle, some (.absent n.toNat s.engine.round)⟩ else s.arb.slots.get q
      let port (q : Port) : PortState := if waits q then (s.ports.get q).raise .query else s.ports.get q
      reply = .next
        ({ s with
          consumers := s.consumers.set n.toNat none
          arb := { s.arb with slots := ⟨slot .a, slot .b, slot .c⟩, order := s.arb.order.filter fun q => !waits q }
          ports := ⟨port .a, port .b, port .c⟩
          engine := { s.engine with work := s.engine.work.map known }
          fbc := { s.fbc with link := link } }.answering p .ok []))

/-- HOLD: RANGE, ABSENT, or the hold is set, indefinite for d = 0 and else until d rounds on, and every QUEUED record of
the consumer from the Engine or Port A ends CANCELLED (R16, R99). The coding of the hold in the answer is the model's
choice (log 10). -/
def Obligations.HoldIsPlacedAndCancelsMoves : Prop :=
  ∀ (s : State) (n d : Byte), s.takesRequest .c = true →
    (96 ≤ n.toNat → exec (.hold .c n d) s = .next (s.answering .c .range [])) ∧
    (n.toNat < 96 → s.consumer? n.toNat = none → exec (.hold .c n d) s = .next (s.answering .c .absent [])) ∧
    (∀ c, n.toNat < 96 → s.consumer? n.toNat = some c →
      let until_ : RoundNo := s.engine.round + BitVec.ofNat 32 d.toNat
      let hold : Hold := if d = 0 then .indefinite else .until until_
      exec (.hold .c n d) s = .next
        (({ s with consumers := s.consumers.set n.toNat (some { c with hold := some hold }) }.removeQueued
          (fun r => r.consumer == n.toNat && (r.origin == Origin.engine || r.origin == Origin.portA)) .cancelled).answering .c .ok
          (if d = 0 then [1] else 2 :: word4 until_)))

/-- RELEASE: checked as HOLD is, the hold becomes absent, nothing else changes, and no move is restored (R17). -/
def Obligations.ReleaseRemovesTheHold : Prop :=
  ∀ (s : State) (p : Port) (n : Byte), s.takesRequest p = true →
    (p ≠ .c → exec (.release p n) s = .next (s.answering p .rights [])) ∧
    (p = .c → 96 ≤ n.toNat → exec (.release p n) s = .next (s.answering p .range [])) ∧
    (p = .c → n.toNat < 96 → s.consumer? n.toNat = none →
      exec (.release p n) s = .next (s.answering p .absent [])) ∧
    (∀ c, p = .c → n.toNat < 96 → s.consumer? n.toNat = some c → ∃ t, exec (.release p n) s = .next t ∧
      t = { s with consumers := s.consumers.set n.toNat (some { c with hold := none }) }.answering p .ok [] ∧
      (c.hold = none → t = s.answering p .ok []))

/-- REQUEST MOVE: R83's checks in its order, each on the state as it stands, then a new QUEUED record at the tail with
the next move id (R82, R83, R84). -/
def Obligations.RequestMoveQueuesAManualMove : Prop :=
  ∀ (s : State) (p : Port) (n q : Byte), s.takesRequest p = true → p ≠ .b →
    let reply := exec (.requestMove p n q) s
    (96 ≤ n.toNat ∨ q.toNat = 0 ∨ 4 ≤ q.toNat → reply = .next (s.answering p .range [])) ∧
    (∀ target, n.toNat < 96 → q.toNat = phaseCode target →
      (s.consumer? n.toNat = none → reply = .next (s.answering p .absent [])) ∧
      (∀ c, s.consumer? n.toNat = some c →
        let unfit := c.phaseState ≠ .confirmed ∨ c.allowed.get target = false ∨ c.recorded = some target ∨
          120 ≤ c.health
        let held := p = .a ∧ c.hold ≠ none
        let frozen := ∃ j r, j ≤ c.segment ∧ s.segs.segments[j]? = some r ∧ r.frozenAt ≠ none
        let busy := ∃ r ∈ s.queue.records, r.consumer = n.toNat
        (unfit → reply = .next (s.answering p .ineligible [])) ∧
        (¬unfit → held → reply = .next (s.answering p .held [])) ∧
        (¬unfit → ¬held → frozen → reply = .next (s.answering p .frozen [])) ∧
        (¬unfit → ¬held → ¬frozen → busy → reply = .next (s.answering p .busy [])) ∧
        (¬unfit → ¬held → ¬frozen → ¬busy → 16 ≤ s.queue.records.length →
          reply = .next (s.answering p .full [])) ∧
        (∀ source, c.recorded = some source →
          ¬unfit → ¬held → ¬frozen → ¬busy → s.queue.records.length < 16 →
          let made : MoveRecord :=
            ⟨s.queue.nextId, n.toNat, source, target, if p = .a then .portA else .portC, s.engine.round, .queued, 0, 0,
              none, none, false, false⟩
          reply = .next
            ({ s with queue := ⟨s.queue.records ++ [made], s.queue.nextId + 1⟩ }.answering p .ok
              (word2 s.queue.nextId)))))

/-- QUERY UNIT: RANGE, ABSENT, BUSY, or the port's slot is WAITING with the consumer and the port joins the tail of the
arrival order; the stored result stays (R149, R150). -/
def Obligations.QueryUnitWaitsInArrivalOrder : Prop :=
  ∀ (s : State) (p : Port) (n : Byte), s.takesRequest p = true →
    let slot := s.arb.slots.get p
    (96 ≤ n.toNat → exec (.queryUnit p n) s = .next (s.answering p .range [])) ∧
    (n.toNat < 96 → s.consumer? n.toNat = none → exec (.queryUnit p n) s = .next (s.answering p .absent [])) ∧
    (∀ c, n.toNat < 96 → s.consumer? n.toNat = some c →
      (slot.stage ≠ .idle → exec (.queryUnit p n) s = .next (s.answering p .busy [])) ∧
      (slot.stage = .idle → exec (.queryUnit p n) s = .next
        ({ s with arb :=
            { s.arb with
              slots := s.arb.slots.set p ⟨.waiting n.toNat, slot.result⟩
              order := s.arb.order ++ [p] } }.answering p .ok [])))

/-! ### Installation settings -/

/-- SET MAINS: its checks in order; else it is answered OK with the five settings, all stored, and repeating those in force
changes nothing (R119). Where nothing becomes due, nothing else changes. A level that has already held for a new qualify time
is accepted in the same event, its stamp still its candidate (R104); a phase whose stamp is three new nominal periods old is
LOST (R106); and an internal tick comes where a new nominal period has passed (R118): each as its own event does. The order
of events due together is free (log 7), and what does not rest on it stands in the last clause; that a first level is
accepted in the event too is the model's (log 7). -/
def Obligations.SetMainsStoresTheSettings : Prop :=
  ∀ (s : State) (p : Port) (f : Byte) (band tol : BitVec 16) (settle qualify : Byte) (t : Time),
    s.takesRequest p = true → p ≠ .b →
    let m : MainsSettings := ⟨f.toNat, band.toNat, tol.toNat, settle.toNat, qualify.toNat⟩
    let ranged := (m.frequency = 50 ∨ m.frequency = 60) ∧ (100 ≤ m.band ∧ m.band ≤ 2000) ∧
      (200 ≤ m.tol ∧ m.tol ≤ 2000) ∧ 8 ≤ m.settle ∧ (1 ≤ m.qualify ∧ m.qualify ≤ 31)
    let answer : List Byte := u1 m.frequency ++ u2 m.band ++ u2 m.tol ++ u1 m.settle ++ u1 m.qualify
    let now : State := { s with time := t }
    let set : State := { now with mtu := { s.mtu with settings := m } }
    let pin (ph : Phase) : Qualifier := s.mtu.pins.get ph
    let nominal : Nat := if m.frequency = 60 then 16667 else 20000
    let held (since : Time) : Prop := m.qualify * 100 ≤ (t - since).toNat
    let accepts (ph : Phase) : Prop := m.qualify ≠ s.mtu.settings.qualify ∧
      (((pin ph).accepted = none ∧ held (pin ph).changedAt) ∨
        ((pin ph).accepted ≠ none ∧ ∃ c, (pin ph).candidate = some c ∧ held c))
    let loses (ph : Phase) : Prop := m.frequency ≠ s.mtu.settings.frequency ∧
      ∃ st, s.mtu.stamps.get ph = some st ∧ 3 * nominal ≤ (t - st).toNat
    let ticks : Prop := m.frequency ≠ s.mtu.settings.frequency ∧ (∀ ph, s.mtu.stamps.get ph = none) ∧
      nominal ≤ (t - s.mtu.lastInternal).toNat
    let reply := exec (.setMains p f band tol settle qualify t) s
    (¬ranged → reply = .next (now.answering p .range [])) ∧
    (ranged → s.engine.run = .auto → reply = .next (now.answering p .state [])) ∧
    (ranged → s.engine.run = .off → m = s.mtu.settings → reply = .next (now.answering p .ok answer)) ∧
    (ranged → s.engine.run = .off →
      ((∀ ph, ¬accepts ph ∧ ¬loses ph) → ¬ticks → reply = .next (set.answering p .ok answer)) ∧
      (∀ ph, accepts ph → (∀ x, accepts x → x = ph) → (∀ x, ¬loses x) → ¬ticks → ∃ u,
        exec (.qualifyTimeExpiry ph t) set = .next u ∧ reply = .next (u.answering p .ok answer)) ∧
      (∀ ph, loses ph → (∀ x, loses x → x = ph) → (∀ x, ¬accepts x) → ∃ u,
        exec (.lossExpiry ph t) set = .next u ∧ reply = .next (u.answering p .ok answer)) ∧
      (ticks → (∀ x, ¬accepts x) → ∃ u,
        exec (.internalTick t) set = .next u ∧ reply = .next (u.answering p .ok answer)) ∧
      (∃ u : State, reply = .next (u.answering p .ok answer) ∧
        u = { set with
          mtu := u.mtu
          engine := { s.engine with timer := u.engine.timer, expiryDue := u.engine.expiryDue }
          queue := { s.queue with records := u.queue.records }
          arb := { s.arb with sweepCount := u.arb.sweepCount, pointer := u.arb.pointer }
          ports := u.ports, freeCount := u.freeCount } ∧
        u.mtu.settings = m ∧
        (∀ ph, accepts ph → u.mtu.pins.get ph = ⟨(pin ph).pin, (pin ph).changedAt,
          some (match (pin ph).accepted with
            | none => (pin ph).pin
            | some .low => .high
            | some .high => .low), none⟩) ∧
        (∀ ph, ¬accepts ph → u.mtu.pins.get ph = pin ph) ∧
        (∀ ph c, accepts ph → (pin ph).accepted = some .low → (pin ph).candidate = some c →
          (loses ph → (t - c).toNat < 3 * nominal) → u.mtu.stamps.get ph = some c) ∧
        (∀ ph, (accepts ph → (pin ph).accepted ≠ some .low) →
          (loses ph → u.mtu.stamps.get ph = none) ∧
          (¬loses ph → u.mtu.stamps.get ph = s.mtu.stamps.get ph))))

/-- SET BUS: its checks in order; both settings are stored, and the link goes to OFF, to JOINING with the join wait begun
at 0, or stays; a transaction in progress that the change cuts off ends ABANDONED with cause SETTINGS (R125, R135, R137,
R138), and its class is offered again: the tried flag cleared for RECHECK (R148), the slot WAITING at the head of the order
for QUERY, or completed ABSENT where the record is gone (R151, R152), the pointer set back for SWEEP (R147, R156). The coding of the settings in the answer is the model's choice (log 10). -/
def Obligations.SetBusStoresTheSettings : Prop :=
  ∀ (s : State) (p : Port) (enable : Byte) (rate : BitVec 16) (t : Time), s.takesRequest p = true → p ≠ .b →
    let now : State := { s with time := t }
    let reply := exec (.setBus p enable rate t) s
    let flying := ∃ r ∈ s.queue.records, r.state ≠ .queued
    (2 ≤ enable.toNat ∨ (∀ r : BitRate, r.hundreds ≠ rate.toNat) → reply = .next (now.answering p .range [])) ∧
    (∀ r : BitRate, enable.toNat < 2 → r.hundreds = rate.toNat →
      (s.engine.run = .auto → reply = .next (now.answering p .state [])) ∧
      (s.engine.run = .off → flying → reply = .next (now.answering p .busy [])) ∧
      (s.engine.run = .off → ¬flying →
        let on := enable.toNat == 1
        let kept := on = s.fbc.enabled ∧ (on = true → r = s.fbc.rate)
        let link : Link := if kept then s.fbc.link else if on then .joining t else .off
        let set : State := { now with fbc := { s.fbc with enabled := on, rate := r, link := link } }
        let cut : State := if kept then set else match s.txn? with
          | some x => set.result x (.abandoned .settings)
          | none => set
        reply = .next (cut.answering p .ok
          (yesNo cut.fbc.enabled ++ u2 cut.fbc.rate.hundreds ++ u1 cut.fbc.link.code)) ∧
        (∀ x, ¬kept → s.txn? = some x →
          (x.cls = .sweep → cut = { set with arb := { s.arb with pointer := x.consumer } }) ∧
          (∀ c, x.cls = .recheck → s.consumer? x.consumer = some c → cut =
            { set with consumers := s.consumers.set x.consumer (some { c with tried := false }) }) ∧
          (x.cls = .recheck → s.consumer? x.consumer = none → cut = set) ∧
          (∀ q, x.cls = .query → x.port = some q → s.consumer? x.consumer ≠ none → cut =
            { set with arb :=
                { s.arb with
                  slots := s.arb.slots.set q ⟨.waiting x.consumer, (s.arb.slots.get q).result⟩
                  order := q :: s.arb.order } }) ∧
          (∀ q, x.cls = .query → x.port = some q → s.consumer? x.consumer = none → cut =
            { set with
              arb := { s.arb with slots := s.arb.slots.set q ⟨.idle, some (.absent x.consumer s.engine.round)⟩ }
              ports := s.ports.set q ((s.ports.get q).raise .query) }) ∧
          (x.cls = .issue ∨ x.cls = .confirm → cut = set))))

/-! ### What a removal and a journal write do -/

/-- A journal entry takes the next sequence number and is appended, the oldest of 32 evicted first with the cursors that
stood on it moved and told by GAP, and JOURNAL is raised on all ports (R160, R161). One event's removals of QUEUED
records write their MOVE_ENDs in queue order, then each new head found off its source is CANCELLED in turn (R87, R99). -/
def Obligations.RemovalsWriteTheJournalInOrder : Prop :=
  (∀ (s : State) (n : Nat) (before : Option Phase) (after : Phase) (kind : EntryKind),
    let e : Entry := ⟨s.journal.next, n, before, after, s.engine.round, kind⟩
    (s.journal.ring.length < 32 → s.writeEntry n before after kind =
      { s with
        journal := { s.journal with ring := s.journal.ring ++ [e], next := s.journal.next + 1 }
        ports := s.ports.map fun q => q.raise .journal }) ∧
    (∀ oldest rest, s.journal.ring = oldest :: rest → 32 ≤ s.journal.ring.length →
      let moved (c : Seq) : Seq := if c = oldest.seq then oldest.seq + 1 else c
      let told (p : Port) : PortState :=
        if s.journal.cursors.get p = oldest.seq then ((s.ports.get p).raise .gap).raise .journal
        else (s.ports.get p).raise .journal
      s.writeEntry n before after kind =
        { s with
          journal := { ring := rest ++ [e], next := s.journal.next + 1, cursors := s.journal.cursors.map moved }
          ports := ⟨told .a, told .b, told .c⟩ })) ∧
  (∀ (s : State) (which : MoveRecord → Bool) (outcome : Outcome),
    let ends (o : Outcome) (u : State) (r : MoveRecord) : State :=
      u.writeEntry r.consumer (some r.source) r.target (.moveEnd r.id r.origin o none)
    let gone := s.queue.records.filter fun r => r.state == .queued && which r
    let kept := s.queue.records.filter fun r => !(r.state == .queued && which r)
    s.removeQueued which outcome =
      (kept.takeWhile s.offSource).foldl (ends .cancelled)
        (gone.foldl (ends outcome) { s with queue := { s.queue with records := kept.dropWhile s.offSource } }) ∧
    s.settleHead = (s.queue.records.takeWhile s.offSource).foldl (ends .cancelled)
      { s with queue := { s.queue with records := s.queue.records.dropWhile s.offSource } } ∧
    (∀ r, s.offSource r = true ↔ r.state = .queued ∧ ∃ c, s.consumer? r.consumer = some c ∧
      c.phaseState = .confirmed ∧ c.recorded ≠ some r.source))

/-! ### The round -/

/-- The latch: its eight steps in R65's order, each reading what the steps before it have written (R4, R15, R18, R37,
R63, R64, R66, R67), and no latch is made while the Engine is busy (R62). The three expiries inside a latch are the same
event (log 4). -/
def Obligations.LatchTakesItsEightStepsInOrder : Prop :=
  ∀ s : State, s.held = false → s.engine.expiryDue = true →
    (∀ w, s.engine.work = some w →
      exec .roundTimerExpiry s = .next { s with engine := { s.engine with expiryDue := false } }) ∧
    (s.engine.work = none →
      let policy : PolicyStore := if s.policy.armed then ⟨s.policy.staged, s.policy.staged, false⟩ else s.policy
      let round : RoundNo := s.engine.round + 1
      let ends := policy.active.windowLength ≤ s.engine.window + 1
      let waited (m : MoveRecord) : Bool := decide (policy.active.queueWait < (round - m.queuedRound).toNat)
      let counted : State :=
        { s with
          policy := policy
          engine :=
            { s.engine with expiryDue := false, round := round, window := if ends then 0 else s.engine.window + 1 }
          consumers := s.consumers.map (Option.map fun c =>
            { c with
              ops := if ends then 0 else c.ops
              hold := if c.hold = some (.until round) then none else c.hold }) }
      let swept : State := counted.removeQueued waited .expired
      let consumers : List (Option Consumer) := swept.consumers.map (Option.map fun c =>
        { c with
          tried := false
          frozen := match c.reading with
            | some r => r.value
            | none => ⟨0, 0⟩ })
      let entry (x : Option Consumer × Nat) : Option WorkEntry := x.1.map fun c =>
        ⟨x.2, c.segment, c.allowed, c.cost, c.recorded, c.phaseState, c.frozen, c.reading.map (·.round), c.lockout,
          c.fault, c.hold.isSome, c.ops, c.lastMove, c.health⟩
      let work : WorkingSet :=
        ⟨round, consumers.zipIdx.filterMap entry, s.segs.count, s.segs.segments.map (·.limit),
          s.segs.segments.map (·.frozenAt.isSome), s.segs.head, policy.active, s.engine.run, s.mtu.mains,
          s.mtu.stamps.map (·.isSome), swept.queue.records.length, []⟩
      let latched : State := { swept with consumers := consumers, engine := { swept.engine with work := some work } }
      exec .roundTimerExpiry s = .next latched ∧
      (ends → exec .windowExpiry s = .next latched) ∧
      ((∃ n c, s.consumer? n = some c ∧ c.hold = some (.until round)) → exec .holdExpiry s = .next latched) ∧
      ((∃ m ∈ s.queue.records, m.state = .queued ∧ waited m = true) → exec .expired s = .next latched))

/-- The completion posts the selected moves one by one against the state as it stands, each appended or withdrawn (R72):
withdrawn too where the record was installed during the round (R22) or the target lies outside the allowed set (R2, R80,
R88); that R22 holds also for a record that a poll has confirmed again is the model's reading (log 21), and so is that a
consumer back on its source at the post passes (log 22). It then publishes
the outcome and the counts (R73, R75), the eight segment results (R26) and the flags (R74). The figures are those of
accumulation and reconciliation: the neutral sums (R40, R43), Q and the score (R44), the estimates (R45), the phase sums,
magnitudes and over-limit flags (R46), the fresh head report (R33), the residuals (R55), MISMATCH (R56) and the provisional
outcome (R69), each with its bound. -/
def Obligations.CompletionPostsAndPublishes : Prop :=
  (∀ (s : State) (w : WorkingSet), s.held = false → s.engine.work = some w →
    let moves := w.selection.1
    let posted := s.post w.round moves
    let outcome := if s.engine.run = .off then .off else w.provisional
    let summary : Summary :=
      ⟨w.round, outcome, w.score, w.selection.2, posted.2, moves.length - posted.2, w.freshHead.isNone,
        w.freshHead.map fun h => (w.residual h).map magnitude⟩
    let flagged : PerPort PortState := s.ports.map fun q => q.raise .round
    exec .completion s = .next
      { s with
        queue := posted.1.queue
        engine := { s.engine with work := none, summary := some summary }
        segs := { s.segs with segments := s.segs.segments.zipIdx.map fun x =>
          { x.1 with result := if x.2 < w.count then some (w.segResult x.2) else none } }
        ports := if outcome = .mismatch then flagged.map fun q => q.raise .mismatch else flagged }) ∧
  (∀ (s : State) (round : RoundNo) (moves : List Selected) (m : Selected),
    let before := s.post round moves
    let passes := before.1.engine.run = .auto ∧
      (∃ c, before.1.consumer? m.consumer = some c ∧ c.phaseState = .confirmed ∧ c.recorded = some m.source ∧
        c.allowed.get m.target = true ∧ c.hold = none ∧ before.1.isFrozen c.segment = false) ∧
      (∀ w, before.1.engine.work = some w → m.consumer ∉ w.replaced) ∧
      (∀ r ∈ before.1.queue.records, r.consumer ≠ m.consumer) ∧ before.1.queue.records.length < 16
    let made : MoveRecord :=
      ⟨before.1.queue.nextId, m.consumer, m.source, m.target, .engine, round, .queued, 0, 0, none, none, false, false⟩
    s.post round [] = (s, 0) ∧
    (passes → s.post round (moves ++ [m]) =
      ({ before.1 with queue := ⟨before.1.queue.records ++ [made], before.1.queue.nextId + 1⟩ }, before.2 + 1)) ∧
    (¬passes → s.post round (moves ++ [m]) = before)) ∧
  (∀ w : WorkingSet,
    let sum (k : Nat) (part : Phase → Phasor → Int) : Int := (w.entries.map fun e =>
      match e.recorded with
      | some p => if e.phaseState ≠ .unknown ∧ k ≤ e.segment then part p e.frozen else 0
      | none => 0).sum
    let neutral (k : Nat) : Phasor := ⟨sum k fun p v => (rotate p v).x, sum k fun p v => (rotate p v).y⟩
    let onPhase (k : Nat) (p : Phase) : Phasor :=
      ⟨sum k fun q v => if q = p then v.x else 0, sum k fun q v => if q = p then v.y else 0⟩
    let sq (v : Phasor) : Int := v.x * v.x + v.y * v.y
    let root (v : Phasor) : Nat := isqrt (sq v).toNat
    let isOver (k : Nat) (p : Phase) : Bool :=
      decide ((10 * (w.limits.getD k 0 : Int)) * (10 * (w.limits.getD k 0 : Int)) < sq (onPhase k p))
    let residual (h : HeadReport) (p : Phase) : Phasor :=
      ⟨(h.currents.get p).x - (onPhase 0 p).x, (h.currents.get p).y - (onPhase 0 p).y⟩
    w.score = ((List.range w.count).map fun k => (w.policy.weights.getD k 0 : Int) * sq (neutral k)).sum.toNat ∧
    (∀ k, w.segResult k = ⟨w.round, neutral k, (sq (neutral k)).toNat, root (neutral k) / 2,
      ⟨onPhase k .l1, onPhase k .l2, onPhase k .l3⟩, ⟨root (onPhase k .l1), root (onPhase k .l2), root (onPhase k .l3)⟩,
      ⟨isOver k .l1, isOver k .l2, isOver k .l3⟩⟩) ∧
    (∀ h, w.freshHead = some h ↔ w.head = some h ∧ (w.round - h.stamp).toNat ≤ w.policy.headAge) ∧
    (∀ h p, (w.residual h).get p = residual h p) ∧
    (w.mismatch = true ↔ 0 < w.policy.headTolerance ∧ ∃ h p, w.freshHead = some h ∧
      (w.policy.headTolerance : Int) * w.policy.headTolerance < sq (residual h p)) ∧
    w.provisional = (if w.run = .off then .off else if w.mains ≠ .valid then .mains
      else if w.occupancy ≠ 0 then .deferred else if w.mismatch = true then .mismatch
      else if w.selection.1 = [] then .none else .selected) ∧
    (w.wf →
      (∀ k, (neutral k).within 262272 ∧ sq (neutral k) ≤ 137573203968 ∧ root (neutral k) / 2 ≤ 185454) ∧
      w.score ≤ 16508784476160 ∧ 16508784476160 < 2 ^ 48 ∧
      (∀ k p, (onPhase k p).within 96000 ∧ root (onPhase k p) ≤ 135764) ∧
      (∀ h p, w.freshHead = some h → (residual h p).within 116000 ∧ sq (residual h p) ≤ 26912000000 ∧
        root (residual h p) ≤ 164048) ∧
      w.selection.1.length ≤ 4 ∧ w.selection.2 ≤ 756))

/-! ### The arithmetic of a round -/

/-- The √3 term (R41) and the rotated contributions (R42), with their bounds; the same table gives the contribution that a
consumer would make on another phase, its own reading kept. -/
def Obligations.RotationTurnsByThePhase : Prop :=
  (∀ v : Int, -1000 ≤ v → v ≤ 1000 →
    sqrt3 v * 2048 ≤ v * 3547 + 1024 ∧ v * 3547 + 1024 < (sqrt3 v + 1) * 2048 ∧
    (v * 3547 + 1024) % 2048 ≠ 0 ∧ sqrt3 (-v) = -sqrt3 v ∧
    -1024 < 2048 * sqrt3 v - 3547 * v ∧ 2048 * sqrt3 v - 3547 * v < 1024 ∧
    -1732 ≤ sqrt3 v ∧ sqrt3 v ≤ 1732) ∧
  ([0, 50, -60, 100, 150, 200, 340, 380, 400, 440, 1000, -1000].map sqrt3 =
    [0, 87, -104, 173, 260, 346, 589, 658, 693, 762, 1732, -1732]) ∧
  (∀ (p : Phase) (x y : Int),
    let r := rotate p ⟨x, y⟩
    r = (match p with
      | .l1 => ⟨2 * x, 2 * y⟩
      | .l2 => ⟨-x + sqrt3 y, -sqrt3 x - y⟩
      | .l3 => ⟨-x - sqrt3 y, sqrt3 x - y⟩) ∧
    (-1000 ≤ x → x ≤ 1000 → -1000 ≤ y → y ≤ 1000 →
      -2732 ≤ r.x ∧ r.x ≤ 2732 ∧ -2732 ≤ r.y ∧ r.y ≤ 2732 ∧
      (p = .l1 → -2000 ≤ r.x ∧ r.x ≤ 2000 ∧ -2000 ≤ r.y ∧ r.y ≤ 2000))) ∧
  (∀ (e : WorkEntry) (p : Phase), e.phaseState ≠ .unknown → e.recorded = some p →
    e.contribution = some (rotate p e.frozen)) ∧
  (∀ c : Candidate,
    c.delta = (rotate c.target c.entry.frozen).sub (rotate c.source c.entry.frozen))

/-- The integer square root is exact and rounded down; the neutral estimate is half of it, rounded down, and in its range
(R45); magnitudes use the same root (R46). -/
def Obligations.SquareRootsAreExact : Prop :=
  (∀ n r : Nat, isqrt n = r ↔ r * r ≤ n ∧ n < (r + 1) * (r + 1)) ∧
  (∀ v : Phasor, neutralEstimate v = isqrt v.normSq.toNat / 2 ∧ magnitude v = isqrt v.normSq.toNat) ∧
  (∀ v : Phasor, -262272 ≤ v.x → v.x ≤ 262272 → -262272 ≤ v.y → v.y ≤ 262272 → neutralEstimate v ≤ 185454) ∧
  isqrt 137573203968 = 370908

/-- The search: a round searches only where the gate of R69 is open; eligible is what R70 says; a candidate is an
eligible consumer not yet chosen with a permitted target (R48), valued in the order of consumer number and then L1, L2, L3;
its gain (R49), effective gain (R50) and limit tests (R51) come from the working sums; of those accepted (R50) and within the
limits (R51) the one with the largest effective gain is chosen, the earliest of equals (R52); the move changes the working
sums (R53) and lowers the working score by exactly its gain (R49, R53); and the searches go on from the accumulated sums, each
counting its candidates, to the limit of moves or a search that chooses nothing (R47, R53, R54, R71). -/
def Obligations.SearchChoosesTheBestCandidate : Prop :=
  (∀ w : WorkingSet,
    let open_ := w.run = .auto ∧ w.mains = .valid ∧ w.occupancy = 0 ∧ w.mismatch = false
    (w.gate = none ↔ open_) ∧ (¬open_ → w.selection = ([], 0)) ∧
    (open_ → w.selection = w.searches w.policy.movesPerRound
      ⟨(List.range w.count).map (neutralSum w.entries), (List.range w.count).map (phaseSums w.entries)⟩ []) ∧
    w.selection.1.length ≤ w.policy.movesPerRound ∧
    (w.selection.1.map (·.consumer)).Nodup) ∧
  (∀ (w : WorkingSet) (e : WorkEntry), w.eligible e = true ↔
    e.phaseState = .confirmed ∧
    (∃ r, e.readingRound = some r ∧ (w.round - r).toNat ≤ w.policy.staleness) ∧
    e.held = false ∧
    (∀ b ∈ w.frozenSegs.take (e.segment + 1), b = false) ∧
    e.health ≤ 39 ∧ e.lockout = false ∧ e.fault = false ∧
    (∀ r, e.lastMove = some r → w.policy.dwell ≤ (w.round - r).toNat) ∧
    e.ops < w.policy.opsLimit ∧
    (∃ q, e.allowed.get q = true ∧ e.recorded ≠ some q ∧ w.present.get q = true)) ∧
  (∀ (w : WorkingSet) (chosen : List Nat) (c : Candidate), c ∈ w.candidates chosen ↔
    c.entry ∈ w.entries ∧ w.eligible c.entry = true ∧ c.entry.n ∉ chosen ∧ c.entry.recorded = some c.source ∧
    c.entry.allowed.get c.target = true ∧ c.target ≠ c.source ∧ w.present.get c.target = true) ∧
  (∀ s : State, (s.workingSet.entries.map (·.n)).Pairwise (· < ·)) ∧
  (∀ (w : WorkingSet) (chosen : List Nat), (w.entries.map (·.n)).Pairwise (· < ·) →
    (w.candidates chosen).Pairwise fun c d =>
      c.entry.n < d.entry.n ∨ (c.entry.n = d.entry.n ∧ phaseCode c.target < phaseCode d.target)) ∧
  (∀ (w : WorkingSet) (ws : WorkSums) (c : Candidate),
    let own := c.entry.frozen
    let there := rotate c.target own
    let here := rotate c.source own
    let shifted (v : Phasor) : Phasor := ⟨v.x + (there.x - here.x), v.y + (there.y - here.y)⟩
    let without (v : Phasor) : Phasor := ⟨v.x - own.x, v.y - own.y⟩
    let with_ (v : Phasor) : Phasor := ⟨v.x + own.x, v.y + own.y⟩
    let sq (v : Phasor) : Int := v.x * v.x + v.y * v.y
    let breaks (k : Nat) (before after : Phasor) : Prop :=
      (10 * (w.limits.getD k 0 : Int)) * (10 * (w.limits.getD k 0 : Int)) < sq after ∧ sq before < sq after
    gain w.policy ws c = ((ws.neutrals.take (c.entry.segment + 1)).zipIdx.map fun x =>
      (w.policy.weights.getD x.2 0 : Int) * (sq x.1 - sq (shifted x.1))).sum ∧
    effective w.policy ws c = gain w.policy ws c - (c.entry.cost : Int) * w.policy.costUnit ∧
    (w.withinLimits ws c = true ↔ ∀ k ps, k ≤ c.entry.segment → ws.sums[k]? = some ps →
      ¬breaks k (ps.get c.source) (without (ps.get c.source)) ∧ ¬breaks k (ps.get c.target) (with_ (ps.get c.target))) ∧
    (∀ k : Nat, (ws.apply c).neutrals[k]? =
      ws.neutrals[k]?.map fun v => if k ≤ c.entry.segment then shifted v else v) ∧
    (c.source ≠ c.target → ∀ (k : Nat) (p : Phase), (ws.apply c).sums[k]?.map (·.get p) = ws.sums[k]?.map fun ps =>
      if k ≤ c.entry.segment then
        if p = c.source then without (ps.get p) else if p = c.target then with_ (ps.get p) else ps.get p
      else ps.get p) ∧
    weightedScore w.policy (ws.apply c).neutrals = weightedScore w.policy ws.neutrals - gain w.policy ws c) ∧
  (∀ (w : WorkingSet) (ws : WorkSums) (cs : List Candidate),
    let fit (c : Candidate) : Prop := 0 < effective w.policy ws c ∧
      (w.policy.gainMin : Int) ≤ effective w.policy ws c ∧ w.withinLimits ws c = true
    match w.choose ws cs with
    | none => ∀ c ∈ cs, ¬fit c
    | some (c, e) => ∃ before after, cs = before ++ c :: after ∧ fit c ∧ e = effective w.policy ws c ∧
        (∀ d ∈ before, fit d → effective w.policy ws d < e) ∧
        (∀ d ∈ after, fit d → effective w.policy ws d ≤ e)) ∧
  (∀ (w : WorkingSet) (left : Nat) (ws : WorkSums) (chosen : List Nat),
    let cs := w.candidates chosen
    w.searches 0 ws chosen = ([], 0) ∧
    (w.choose ws cs = none → w.searches (left + 1) ws chosen = ([], cs.length)) ∧
    (∀ c e, w.choose ws cs = some (c, e) →
      let rest := w.searches left (ws.apply c) (c.entry.n :: chosen)
      w.searches (left + 1) ws chosen =
        (⟨c.entry.n, c.source, c.target, gain w.policy ws c, e⟩ :: rest.1, cs.length + rest.2)))

/-! ### The mains -/

/-- A pin that leaves the accepted level sets the candidate, a pin that returns to it leaves no trace, and with no
accepted level the qualify time counts from the change (R103); while RESETN holds the part the pin alone moves (R178). -/
def Obligations.PinChangeSetsOrDropsTheCandidate : Prop :=
  ∀ (s : State) (ph : Phase) (level : Level) (t : Time),
    let q := s.mtu.pins.get ph
    let moved (candidate : Option Time) : State :=
      { s with time := t, mtu := { s.mtu with pins := s.mtu.pins.set ph ⟨level, t, q.accepted, candidate⟩ } }
    (q.pin = level → exec (.zcPinChange ph level t) s = .next { s with time := t }) ∧
    (q.pin ≠ level → s.held = true → exec (.zcPinChange ph level t) s = .next (moved q.candidate)) ∧
    (q.pin ≠ level → s.held = false → q.accepted = none →
      exec (.zcPinChange ph level t) s = .next (moved none)) ∧
    (q.pin ≠ level → s.held = false → q.accepted = some level →
      exec (.zcPinChange ph level t) s = .next (moved none)) ∧
    (∀ a, q.pin ≠ level → s.held = false → q.accepted = some a → a ≠ level →
      exec (.zcPinChange ph level t) s = .next (moved (some t)))

/-- The qualify time: a first level and a HIGH to LOW change are accepted and do nothing more (R103); a rising edge of L2
or L3, or of L1 with no previous stamp held, stamps its phase with the candidate, makes it PRESENT, ends ABSENT, and
delivers a cycle tick if the phase is then the source (R104, R105, R113, R114, R117; the marks at a first L1 edge: log 8). -/
def Obligations.QualifiedEdgeStampsItsPhase : Prop :=
  ∀ (s : State) (ph : Phase) (t : Time), s.held = false →
    let q := s.mtu.pins.get ph
    let limit := s.mtu.settings.qualify * 100
    let accept (level : Level) : PerPhase Qualifier := s.mtu.pins.set ph ⟨q.pin, q.changedAt, some level, none⟩
    (q.accepted = none → limit ≤ (t - q.changedAt).toNat →
      exec (.qualifyTimeExpiry ph t) s = .next { s with time := t, mtu := { s.mtu with pins := accept q.pin } }) ∧
    (∀ c, q.accepted = some .high → q.candidate = some c → limit ≤ (t - c).toNat →
      exec (.qualifyTimeExpiry ph t) s = .next { s with time := t, mtu := { s.mtu with pins := accept .low } }) ∧
    (∀ c, q.accepted = some .low → q.candidate = some c → limit ≤ (t - c).toNat →
      ph ≠ .l1 ∨ s.mtu.prevL1 = none →
      let leaves := s.mtu.mains = .absent
      let mtu : Mtu :=
        { s.mtu with
          pins := accept .high
          stamps := s.mtu.stamps.set ph (some c)
          mark2 := if ph = .l2 then true else if ph = .l1 then false else s.mtu.mark2
          mark3 := if ph = .l3 then true else if ph = .l1 then false else s.mtu.mark3
          prevL1 := if ph = .l1 then some c else s.mtu.prevL1
          mains := if leaves then .settling else s.mtu.mains
          good := if leaves then 0 else s.mtu.good }
      let edge : State :=
        { s with time := t, mtu := mtu, ports := if leaves then s.ports.map fun x => x.raise .mains else s.ports }
      exec (.qualifyTimeExpiry ph t) s = .next (if mtu.source = some ph then edge.cycleTick else edge))

/-- The cycle check of an accepted L1 rising edge: R109's table in its order, the last fault of a bad verdict (R112), the
figures of a good one (R115), the mains state and the good count (R113), MAINS (R114), a record in ISSUING with no attempt
running gone to SWITCHING as the mains leaves VALID (R93, R94, R114), and the cleared marks. The premise on ABSENT is part of
the invariant `State.mainsWf`, with `prevL1` held only while L1 is PRESENT. -/
def Obligations.CycleCheckJudgesThePeriod : Prop :=
  ∀ (s : State) (t c old : Time), s.held = false → s.mtu.mains ≠ .absent →
    s.mtu.pins.l1.accepted = some .low → s.mtu.pins.l1.candidate = some c → s.mtu.prevL1 = some old →
    s.mtu.settings.qualify * 100 ≤ (t - c).toNat →
    let period : Int := (c - old).toNat
    let nominal : Int := if s.mtu.settings.frequency = 60 then 16667 else 20000
    let near (a b : Int) (limit : Nat) : Prop := -(limit : Int) ≤ a - b ∧ a - b ≤ limit
    let tol := 3 * s.mtu.settings.tol
    let inBand := near period nominal s.mtu.settings.band
    let distances (d2 d3 : Nat) : Prop := s.mtu.mark2 = true ∧ s.mtu.mark3 = true ∧
      s.mtu.stamps.l2.map (fun x => (x - old).toNat) = some d2 ∧
      s.mtu.stamps.l3.map (fun x => (x - old).toNat) = some d3
    let good (d2 d3 : Nat) : Prop := near (3 * d2) period tol ∧ near (3 * d3) (2 * period) tol
    let swapped (d2 d3 : Nat) : Prop := near (3 * d2) (2 * period) tol ∧ near (3 * d3) period tol
    ∃ u e : State, exec (.qualifyTimeExpiry .l1 t) s = .next u ∧ u = e.cycleTick ∧
      e = { s with time := t, mtu := u.mtu, queue := e.queue, ports := e.ports } ∧
      (e.ports = if u.mtu.mains = s.mtu.mains then s.ports else s.ports.map fun q => q.raise .mains) ∧
      e.queue = { s.queue with records := match s.queue.records with
        | r :: rest =>
          if s.mtu.mains = .valid ∧ u.mtu.mains ≠ .valid ∧ s.running .issue = false ∧ r.state = .issuing then
            { r with
              state := .switching, wait := some ((r.deadTime.getD 0 + 1) / 2 + 6), waitEnded := false
              attemptDue := false } :: rest
          else r :: rest
        | [] => [] } ∧
      u.mtu.settings = s.mtu.settings ∧ u.mtu.lastInternal = s.mtu.lastInternal ∧ u.mtu.pins = s.mtu.pins.set .l1
        ⟨s.mtu.pins.l1.pin, s.mtu.pins.l1.changedAt, some .high, none⟩ ∧
      u.mtu.stamps = s.mtu.stamps.set .l1 (some c) ∧
      u.mtu.prevL1 = some c ∧ u.mtu.mark2 = false ∧ u.mtu.mark3 = false ∧
      (∀ d2 d3, inBand → distances d2 d3 → good d2 d3 →
        u.mtu.lastFault = s.mtu.lastFault ∧
        u.mtu.figures = some ⟨(c - old).toNat, d2, d3, (200000000 + (c - old).toNat) / (2 * (c - old).toNat),
          s.engine.round⟩ ∧
        (s.mtu.mains = .settling → u.mtu.good = min 255 (s.mtu.good + 1) ∧
          u.mtu.mains = if s.mtu.settings.settle ≤ u.mtu.good then .valid else .settling) ∧
        (s.mtu.mains = .valid → u.mtu.good = s.mtu.good ∧ u.mtu.mains = .valid) ∧
        (s.mtu.mains = .disturbed → u.mtu.good = 1 ∧ u.mtu.mains = .settling)) ∧
      (∀ cause : FaultCause,
        (¬inBand ∧ cause = .period) ∨
        (∃ d2 d3, inBand ∧ distances d2 d3 ∧ ¬good d2 d3 ∧ swapped d2 d3 ∧ cause = .reversed) ∨
        (∃ d2 d3, inBand ∧ distances d2 d3 ∧ ¬good d2 d3 ∧ ¬swapped d2 d3 ∧ cause = .spacing) ∨
        (inBand ∧ (¬∃ d2 d3, distances d2 d3) ∧ cause = .spacing) →
        u.mtu.lastFault = some ⟨cause, s.engine.round, t⟩ ∧ u.mtu.figures = s.mtu.figures ∧ u.mtu.good = 0 ∧
        u.mtu.mains = if s.mtu.mains = .settling then .settling else .disturbed)

/-- The loss of a phase: its stamp and mark go, for L1 the previous stamp too (R106); last fault LOSS (R112); the mains
state (R113) and MAINS (R114); a record in ISSUING with no attempt running goes to SWITCHING as the mains leaves VALID
(R93, R94); the internal ticks begin with the last phase (R118). The premise on ABSENT is part of the invariant
`State.mainsWf`. -/
def Obligations.LossOfAPhaseDisturbsTheMains : Prop :=
  ∀ (s : State) (ph : Phase) (t st : Time), s.held = false → s.mtu.stamps.get ph = some st →
    3 * (if s.mtu.settings.frequency = 60 then 16667 else 20000) ≤ (t - st).toNat → s.mtu.mains ≠ .absent →
    let stamps := s.mtu.stamps.set ph none
    let last := stamps.l1 = none ∧ stamps.l2 = none ∧ stamps.l3 = none
    let mains : MainsState :=
      if s.mtu.mains = .valid then .disturbed else if last then .absent else s.mtu.mains
    let ceases := s.mtu.mains = .valid ∧ s.running .issue = false
    exec (.lossExpiry ph t) s = .next
      { s with
        time := t
        mtu :=
          { s.mtu with
            stamps := stamps
            mark2 := if ph = .l2 then false else s.mtu.mark2
            mark3 := if ph = .l3 then false else s.mtu.mark3
            prevL1 := if ph = .l1 then none else s.mtu.prevL1
            lastFault := some ⟨.loss ph, s.engine.round, t⟩
            mains := mains
            good := 0
            lastInternal := if last then t else s.mtu.lastInternal }
        ports := if mains = s.mtu.mains then s.ports else s.ports.map fun q => q.raise .mains
        queue :=
          { s.queue with records := match s.queue.records with
            | r :: rest =>
              if ceases ∧ r.state = .issuing then
                { r with
                  state := .switching, wait := some ((r.deadTime.getD 0 + 1) / 2 + 6), waitEnded := false
                  attemptDue := false } :: rest
              else r :: rest
            | [] => [] } }

/-- An internal cycle tick comes one nominal period after the one before (R118). A cycle tick counts the round timer and
lets it expire at the round period (R61), an expiry that comes while the Engine is busy being lost (R62); it counts every
attempt wait (R80), and ends a sweep that has no qualifying record left (R146, R147). That the expiry waits to be taken
by its own command is the model's (log 3). -/
def Obligations.CycleTickCountsTimerAndWaits : Prop :=
  ∀ (s : State) (t : Time), s.held = false → s.mtu.source = none →
    (if s.mtu.settings.frequency = 60 then 16667 else 20000) ≤ (t - s.mtu.lastInternal).toNat →
    let expires := s.policy.active.roundPeriod ≤ s.engine.timer + 1
    let left := ∃ n c, s.consumer? n = some c ∧ s.arb.pointer ≤ n ∧ c.recheck = false ∧
      (c.health ≤ 119 ∨ s.arb.sweepCount = 0)
    let ticked (arb : Arbiter) : State :=
      { s with
        time := t
        mtu := { s.mtu with lastInternal := t }
        engine :=
          { s.engine with
            timer := if expires then 0 else s.engine.timer + 1
            expiryDue := if expires then s.engine.expiryDue || s.engine.work.isNone else s.engine.expiryDue }
        queue := { s.queue with records := s.queue.records.map fun r => match r.wait with
          | some n => if n ≤ 1 then { r with wait := none, waitEnded := true } else { r with wait := some (n - 1) }
          | none => r }
        arb := arb }
    (left ∨ s.running .sweep = true → exec (.internalTick t) s = .next (ticked s.arb)) ∧
    (¬left → s.running .sweep = false → exec (.internalTick t) s = .next
      (ticked { s.arb with sweepCount := (s.arb.sweepCount + 1) % 8, pointer := 0 }))

/-! ### The Executor's waits -/

/-- The attempt wait of the head record ends: a repeat is due while the mains is VALID and else the record goes to
SWITCHING (R93, R94); a record in SWITCHING becomes CONFIRMING with its first CONFIRM due (R94); a confirm attempt is due
again (R97). That each is a command of its own after the tick is the model's (log 3). -/
def Obligations.AttemptWaitEndMovesTheStageOn : Prop :=
  ∀ (s : State) (r : MoveRecord) (rest : List MoveRecord), s.held = false → s.queue.records = r :: rest →
    r.waitEnded = true →
    let head (x : MoveRecord) : State := { s with queue := { s.queue with records := x :: rest } }
    let due : MoveRecord := { r with wait := none, waitEnded := false, attemptDue := true }
    (r.state = .issuing → s.mtu.mains = .valid → exec .repeatDue s = .next (head due)) ∧
    (r.state = .issuing → s.mtu.mains ≠ .valid → exec .repeatDue s = .next (head
      { r with
        state := .switching, wait := some ((r.deadTime.getD 0 + 1) / 2 + 6), waitEnded := false, attemptDue := false })) ∧
    (r.state = .switching → exec .switchingWaitEnd s = .next (head { due with state := .confirming })) ∧
    (r.state = .confirming → exec .confirmRetryDue s = .next (head due))

/-! ### The Arbiter's grants -/

/-- Which classes are pending (R86, R93, R95, R143, R146, R148, R151), and which the Arbiter grants: the pending class of
highest priority, but SWEEP when it is pending and the starvation count has reached 6 (R143, R144), and none but in FREE
(R142). -/
def Obligations.GrantsFollowPriorityAndStarvation : Prop :=
  ∀ s : State,
    let online := ∃ b, s.fbc.link = .online b
    let untried := ∃ n c, s.consumer? n = some c ∧ c.recheck = true ∧ c.tried = false
    let pending : TxnClass → Prop := fun cls => match cls with
      | .confirm => online ∧ ∃ r ∈ s.queue.records.head?, r.state = .confirming ∧ r.attemptDue = true
      | .issue => online ∧ s.mtu.mains = .valid ∧ ∃ r ∈ s.queue.records.head?,
          (r.state = .queued ∧ ∃ c, s.consumer? r.consumer = some c ∧ c.phaseState = .confirmed ∧
            c.recorded = some r.source) ∨ (r.state = .issuing ∧ r.attemptDue = true)
      | .recheck => untried
      | .query => ∃ p rest n, s.arb.order = p :: rest ∧ (s.arb.slots.get p).stage = .waiting n
      | .sweep => ¬untried ∧ ∃ n c, s.consumer? n = some c ∧ s.arb.pointer ≤ n ∧ c.recheck = false ∧
          (c.health ≤ 119 ∨ s.arb.sweepCount = 0)
    let priority : List TxnClass := [.confirm, .issue, .recheck, .query, .sweep]
    let starved := pending .sweep ∧ 6 ≤ s.arb.starvation
    ∀ c : TxnClass,
      (s.pendingClass c = true ↔ pending c) ∧
      (s.choice = some c ↔ pending c ∧ (starved → c = .sweep) ∧
        (¬starved → ∀ d, priority.idxOf d < priority.idxOf c → ¬pending d)) ∧
      (s.grants c = true ↔ s.fbc.link = .online .free ∧ s.choice = some c)

/-- ISSUE granted: a QUEUED head becomes ISSUING with the active dead time, a repeat keeps its own, the consumer is
MOVING, and the FBC sends the MOVE frame of R123, whose bytes sum to 0 (R88, R93, R123, R144). While it sends, FDE is raised
and FTX carries, from one bit time after the grant on, each byte in R121's eleven bits with nothing between the characters;
elsewhere FDE is low and FTX at mark (R121, R125, R128), and characters are received in the same form (R121). -/
def Obligations.IssueGrantSendsTheMoveFrame : Prop :=
  (∀ (s : State) (r : MoveRecord) (rest : List MoveRecord) (c : Consumer), s.held = false → s.grants .issue = true →
    s.queue.records = r :: rest → s.consumer? r.consumer = some c →
    let sent (issued : MoveRecord) (dead : Nat) : State :=
      { s with
        arb := { s.arb with starvation := if s.pendingClass .sweep then s.arb.starvation + 1 else 0 }
        fbc := { s.fbc with link := .online (.sending
          ⟨.issue, r.consumer, c.address, none,
            withCheck [byteOf (c.address + 128), 0x02, 3, r.id.setWidth 8,
              byteOf (phaseCode r.target + 16 * phaseCode r.source), byteOf dead], true⟩) }
        queue := { s.queue with records := issued :: rest }
        consumers := s.consumers.set r.consumer (some { c with phaseState := .moving }) }
    let dead := s.policy.active.deadTime
    (r.state = .queued → exec .issueGrant s = .next
      (sent { r with state := .issuing, deadTime := some dead, issueAttempts := 1 } dead)) ∧
    (∀ own, r.state = .issuing → r.deadTime = some own → exec .issueGrant s = .next
      (sent { r with issueAttempts := r.issueAttempts + 1, attemptDue := false } own))) ∧
  (∀ bytes : List Byte, byteSum (withCheck bytes) = 0) ∧
  (∀ (s : State) (x : Txn), s.held = false → s.fbc.link = .online (.sending x) →
    s.fde = true ∧ s.ftx 0 = true ∧ (∀ k, 11 * x.frame.length < k → s.ftx k = true) ∧
    (∀ (i j : Nat) (b : Byte), x.frame[i]? = some b → j < 11 →
      s.ftx (1 + 11 * i + j) =
        if j = 0 then false else if j < 9 then b.getLsbD (j - 1) else if j = 9 then decide (ones b % 2 = 0) else true)) ∧
  (∀ s : State, (∀ x, s.fbc.link ≠ .online (.sending x)) → s.fde = false ∧ ∀ k, s.ftx k = true) ∧
  (∀ (c : RxChar) (bits : List Bool), rxCharOf bits = some c ↔
    bits = [false, c.data.getLsbD 0, c.data.getLsbD 1, c.data.getLsbD 2, c.data.getLsbD 3, c.data.getLsbD 4,
      c.data.getLsbD 5, c.data.getLsbD 6, c.data.getLsbD 7, c.parity, c.stopAtMark])

/-- CONFIRM, RECHECK, QUERY and SWEEP granted: the POLL frame of R123 is sent to the record's address as it stands, and
the class keeps its own account (R95, R142, R144, R146, R148, R151). -/
def Obligations.PollGrantsSendThePollFrame : Prop :=
  ∀ s : State, s.held = false →
    let poll (cls : TxnClass) (n : Nat) (c : Consumer) (port : Option Port) : State :=
      { s with
        arb :=
          { s.arb with starvation :=
              if cls = .sweep then 0 else if s.pendingClass .sweep then s.arb.starvation + 1 else 0 }
        fbc := { s.fbc with link := .online (.sending
          ⟨cls, n, c.address, port, withCheck [byteOf (c.address + 128), 0x01, 0], true⟩) } }
    let sweeps (c : Consumer) := c.recheck = false ∧ (c.health ≤ 119 ∨ s.arb.sweepCount = 0)
    (∀ r rest c, s.grants .confirm = true → s.queue.records = r :: rest → s.consumer? r.consumer = some c →
      exec .confirmGrant s = .next
        { poll .confirm r.consumer c none with queue :=
            { s.queue with records :=
                { r with confirmAttempts := r.confirmAttempts + 1, attemptDue := false } :: rest } }) ∧
    (∀ n c, s.grants .recheck = true → s.consumer? n = some c → c.recheck = true → c.tried = false →
      (∀ m d, m < n → s.consumer? m = some d → ¬(d.recheck = true ∧ d.tried = false)) →
      exec .recheckGrant s = .next
        { poll .recheck n c none with consumers := s.consumers.set n (some { c with tried := true }) }) ∧
    (∀ p rest n c, s.grants .query = true → s.arb.order = p :: rest → (s.arb.slots.get p).stage = .waiting n →
      s.consumer? n = some c →
      exec .queryGrant s = .next
        { poll .query n c (some p) with arb :=
            { (poll .query n c (some p)).arb with
              slots := s.arb.slots.set p ⟨.inProgress n, (s.arb.slots.get p).result⟩, order := rest } }) ∧
    (∀ n c, s.grants .sweep = true → s.consumer? n = some c → s.arb.pointer ≤ n → sweeps c →
      (∀ m d, s.arb.pointer ≤ m → m < n → s.consumer? m = some d → ¬sweeps d) →
      exec .sweepGrant s = .next
        { poll .sweep n c none with arb := { (poll .sweep n c none).arb with pointer := n + 1 } })

/-! ### The field bus -/

/-- The echo of every character good: AWAITING with the reply limit from here (R128). A bad echo is contention: counted,
JOINING, the transaction ABANDONED with cause CONTENDED, and its class offered again with its attempt uncounted (R93, R95,
R129, R135, R136, R145, R147, R148, R151, R152). That a contended MOVE goes to SWITCHING at once while the mains is not VALID
is the model's choice (log 16), and so is the level of FRX that the echoes leave (log 13). -/
def Obligations.EchoesDecideSentOrContended : Prop :=
  ∀ (s : State) (x : Txn) (echo : List (Option RxChar)) (t : Time), s.held = false →
    s.fbc.link = .online (.sending x) →
    let good (b : Byte) (e : Option RxChar) : Prop :=
      ∃ c, e = some c ∧ c.data = b ∧ c.stopAtMark = true ∧ (ones c.data + c.parity.toNat) % 2 = 1
    (List.Forall₂ good x.frame echo → exec (.requestSent echo t) s = .next
      { s with time := t, fbc := { s.fbc with link := .online (.awaiting x t), frx := .mark } }) ∧
    ((∃ (i : Nat) (b : Byte) (e : Option RxChar), x.frame[i]? = some b ∧ echo[i]? = some e ∧ ¬good b e) →
      let joining : State :=
        { s with
          time := t
          fbc :=
            { s.fbc with
              contentions := min 65535 (s.fbc.contentions + 1), lastContention := some s.engine.round
              link := .joining t
              frx := match echo.getLast? with
                | some (some c) => if c.stopAtMark then .mark else .space
                | _ => .mark } }
      let head (r : MoveRecord) (rest : List MoveRecord) : State :=
        { joining with queue := { s.queue with records := r :: rest } }
      let reply := exec (.contention echo t) s
      (x.cls = .sweep → reply = .next { joining with arb := { s.arb with pointer := x.consumer } }) ∧
      (∀ c, x.cls = .recheck → s.consumer? x.consumer = some c → reply = .next
        { joining with consumers := s.consumers.set x.consumer (some { c with tried := false }) }) ∧
      (x.cls = .recheck → s.consumer? x.consumer = none → reply = .next joining) ∧
      (∀ p, x.cls = .query → x.port = some p → s.consumer? x.consumer ≠ none → reply = .next
        { joining with arb :=
            { s.arb with
              slots := s.arb.slots.set p ⟨.waiting x.consumer, (s.arb.slots.get p).result⟩
              order := p :: s.arb.order } }) ∧
      (∀ p, x.cls = .query → x.port = some p → s.consumer? x.consumer = none → reply = .next
        { joining with
          arb := { s.arb with slots := s.arb.slots.set p ⟨.idle, some (.absent x.consumer s.engine.round)⟩ }
          ports := s.ports.set p ((s.ports.get p).raise .query) }) ∧
      (∀ r rest, x.cls = .issue → s.queue.records = r :: rest → r.state = .issuing → reply = .next
        (head (if s.mtu.mains = .valid then
            { r with issueAttempts := r.issueAttempts - 1, wait := none, waitEnded := false, attemptDue := true }
          else
            { r with
              issueAttempts := r.issueAttempts - 1, state := .switching
              wait := some ((r.deadTime.getD 0 + 1) / 2 + 6), waitEnded := false, attemptDue := false }) rest)) ∧
      (∀ r rest, x.cls = .confirm → s.queue.records = r :: rest → r.state = .confirming → reply = .next
        (head { r with
          confirmAttempts := r.confirmAttempts - 1, wait := none, waitEnded := false, attemptDue := true } rest)))

/-- The line outside a reply: FRX at space restarts the join wait and the quiet time and is a foreign talker in FREE
(R126, R127, R130); the join wait and the quiet time end by R122's bit times at the rate in force while FRX is at mark, the
quiet limit also with FRX held at space; a start bit in AWAITING is the reply's where it begins within the reply limit
(R131), and no event of a reply after it. The model's choices: the timers as stamps (log 15), and how FRX_AT_SPACE tells the
pin, which alone moves in SENDING, RECEIVING and OFF (log 13). -/
def Obligations.LineEventsMoveTheLink : Prop :=
  ∀ (s : State) (t : Time), s.held = false →
    let rate : Nat := match s.fbc.rate with
      | .r9600 => 9600
      | .r19200 => 19200
      | .r38400 => 38400
    let linked (l : Link) (pin : Line) : State := { s with time := t, fbc := { s.fbc with link := l, frx := pin } }
    let contended (pin : Line) : State :=
      { s with
        time := t
        fbc :=
          { s.fbc with
            contentions := min 65535 (s.fbc.contentions + 1), lastContention := some s.engine.round
            link := .joining t, frx := pin } }
    let pin (stays : Bool) : Line := if stays then .space else .mark
    (s.fbc.link = .online .free →
      exec (.foreignTalker t) s = .next (contended s.fbc.frx) ∧
      ∀ stays, exec (.frxAtSpace ⟨stays, t⟩) s = .next (contended (pin stays))) ∧
    (∀ e z, s.fbc.link = .online (.quiet e z) →
      (264 * 1000000 ≤ (t - e).toNat * rate →
        s.fbc.frx = .space ∨ 264 * 1000000 < (z - e).toNat * rate + 44 * 1000000 →
        exec (.quietLimit t) s = .next (contended s.fbc.frx)) ∧
      (s.fbc.frx = .mark → 44 * 1000000 ≤ (t - z).toNat * rate →
        (z - e).toNat * rate + 44 * 1000000 ≤ 264 * 1000000 →
        exec (.quietTimeEnd t) s = .next (linked (.online .free) .mark)) ∧
      ∀ stays, exec (.frxAtSpace ⟨stays, t⟩) s = .next (linked (.online (.quiet e t)) (pin stays))) ∧
    (∀ z, s.fbc.link = .joining z →
      (s.fbc.frx = .mark → 264 * 1000000 ≤ (t - z).toNat * rate →
        exec (.joinWaitComplete t) s = .next (linked (.online .free) .mark)) ∧
      ∀ stays, exec (.frxAtSpace ⟨stays, t⟩) s = .next (linked (.joining t) (pin stays))) ∧
    (s.fbc.frx = .space → ∀ z, s.fbc.link = .joining z ∨ (∃ e, s.fbc.link = .online (.quiet e z)) →
      exec (.joinWaitComplete t) s = .next { s with time := t } ∧
      exec (.quietTimeEnd t) s = .next { s with time := t }) ∧
    (∀ x a stays, s.fbc.link = .online (.awaiting x a) →
      exec (.frxAtSpace ⟨stays, t⟩) s = .next
        (linked (if (t - a).toNat ≤ 20000 then .online (.receiving x t) else s.fbc.link) (pin stays))) ∧
    (∀ x b stays, s.fbc.link = .online (.sending x) ∨ s.fbc.link = .online (.receiving x b) ∨ s.fbc.link = .off →
      exec (.frxAtSpace ⟨stays, t⟩) s = .next (linked s.fbc.link (pin stays)))

/-- A reply that fails: NO REPLY at 20,000 µs (R131), GAP 33 bit times after a character's stop bit and not before, the
tests of R132 character by character in its order; QUIET; the unit's health (R154, R155); then the class: the next MOVE
attempt or SWITCHING (R92), the next confirm attempt or LOST (R97), the stored query result (R151), nothing for RECHECK and
SWEEP (R147, R148). A reply that begins after the reply limit is none (R131). That a reply is one command, told by its
characters and the moments at which they begin, is the model's choice (log 12). -/
def Obligations.FailedRepliesCountAgainstTheUnit : Prop :=
  (∀ (s : State) (x : Txn) (t : Time), s.held = false →
    let rate : Nat := match s.fbc.rate with
      | .r9600 => 9600
      | .r19200 => 19200
      | .r38400 => 38400
    let awaits (start : Time) : Prop :=
      (∃ a, s.fbc.link = .online (.awaiting x a) ∧ (start - a).toNat ≤ 20000) ∨
        s.fbc.link = .online (.receiving x start)
    let near (chars : List RxAt) : Prop := ∀ i c d, chars[i]? = some c → chars[i + 1]? = some d →
      (d.start - c.start).toNat * rate ≤ (11 + 33) * 1000000
    let quiet (pin : Line) : State :=
      { s with time := t, fbc := { s.fbc with link := .online (.quiet t t), frx := pin } }
    let blamed (pin : Line) : State := match x.sameRecord, s.consumer? x.consumer with
      | true, some c =>
        { quiet pin with
          consumers := s.consumers.set x.consumer (some { c with health := min 160 (c.health + 4) })
          ports := if 116 ≤ c.health ∧ c.health ≤ 119 then s.ports.map fun q => q.raise .link else s.ports }
      | _, _ => quiet pin
    let after (k : FailKind) (pin : Line) : State := (blamed pin).resultOnClass x (.failed k)
    (∀ a, s.fbc.link = .online (.awaiting x a) → 20000 ≤ (t - a).toNat →
      exec (.noReply t) s = .next (after .noReply s.fbc.frx)) ∧
    (∀ chars first last, chars.head? = some first → chars.getLast? = some last → awaits first.start → near chars →
      let read := judge x.expects (chars.map (·.char))
      (read = .incomplete → (11 + 33) * 1000000 ≤ (t - last.start).toNat * rate →
        exec (.gap chars t) s = .next (after .gap .mark)) ∧
      (read = .incomplete → (t - last.start).toNat * rate < (11 + 33) * 1000000 →
        exec (.gap chars t) s = .next { s with time := t }) ∧
      (∀ k, read = .failed k → exec (.replyFailed chars t) s = .next
        (after k (if last.char.stopAtMark then .mark else .space)))) ∧
    (∀ chars first a, chars.head? = some first → s.fbc.link = .online (.awaiting x a) → 20000 < (first.start - a).toNat →
      exec (.gap chars t) s = .next { s with time := t } ∧
      exec (.replyFailed chars t) s = .next { s with time := t }) ∧
    (∀ k pin, x.cls = .recheck ∨ x.cls = .sweep → after k pin = blamed pin) ∧
    (∀ k pin p, x.cls = .query → x.port = some p → after k pin =
      { blamed pin with
        arb := (
          { s.arb with
            slots := s.arb.slots.set p ⟨.idle, some (.failed x.consumer x.address k s.engine.round)⟩ })
        ports := (blamed pin).ports.set p (((blamed pin).ports.get p).raise .query) }) ∧
    (∀ k pin r rest, x.cls = .issue → s.queue.records = r :: rest → r.state = .issuing → after k pin =
      { blamed pin with queue :=
          { s.queue with records :=
              (if r.issueAttempts < 3 ∧ s.mtu.mains = .valid then
                { r with wait := some 2, waitEnded := false, attemptDue := false }
              else
                { r with
                  state := .switching, wait := some ((r.deadTime.getD 0 + 1) / 2 + 6), waitEnded := false
                  attemptDue := false }) :: rest } }) ∧
    (∀ k pin r rest, x.cls = .confirm → s.queue.records = r :: rest → r.state = .confirming →
      (r.confirmAttempts < 3 → after k pin =
        { blamed pin with queue :=
            { s.queue with records := { r with wait := some 5, waitEnded := false, attemptDue := false } :: rest } }) ∧
      (∀ c, 3 ≤ r.confirmAttempts → (blamed pin).consumer? r.consumer = some c → after k pin =
        ({ blamed pin with
            queue := { s.queue with records := rest }
            consumers := (blamed pin).consumers.set r.consumer (some
              { c with
                phaseState := .uncertain, recheck := true, tried := false, ops := min 63 (c.ops + 1)
                lastMove := some s.engine.round }) }.writeEntry r.consumer (some r.source) r.target
          (.moveEnd r.id r.origin .lost none)).settleHead))) ∧
  (∀ (e : Expected) (chars : List RxChar) (c : RxChar),
    let last := if e.isMove then 5 else 9
    judge e [] = .incomplete ∧
    judge e (chars ++ [c]) = match judge e chars with
      | .incomplete =>
        if (ones c.data + c.parity.toNat) % 2 = 0 then .failed .parity
        else if c.stopAtMark = false then .failed .framing
        else if chars.length = 0 ∧ c.data ≠ e.address then .failed .address
        else if chars.length = 1 ∧ c.data ≠ (if e.isMove then 0x12 else 0x11) then .failed .kind
        else if chars.length = 2 ∧ c.data ≠ (if e.isMove then 2 else 6) then .failed .length
        else if chars.length = 4 ∧ e.isMove = true ∧ (c.data.toNat % 16 = 0 ∨ 6 ≤ c.data.toNat % 16) then .failed .kind
        else if chars.length = last then
          if byteSum (chars.map (·.data)) + c.data = 0 then .good (chars.map (·.data) ++ [c.data])
          else .failed .check
        else .incomplete
      | _ => .overrun)

/-- A good STATE reply: QUIET; the unit's health (R154, R155); X and Y clamped (R133), the reading and the status (R3),
the phase by the record's phase state (R6 to R10), a QUEUED head found off its source CANCELLED (R87); then the stored
result and QUERY for a query (R151). A record installed or removed since the grant is not reached (R3, R145). The model's
choices: the reply is one command, told by the moments of its characters (log 12); a whole STATE to a MOVE, which has failed
at its kind byte by REPLY_FAILED (R132), is no event (log 2, log 12); and a head whose consumer is confirmed on its
unchanged recorded phase, off the record's source, is CANCELLED too (log 9). -/
def Obligations.GoodStateReplyUpdatesTheMap : Prop :=
  ∀ (s : State) (x : Txn) (status tag : Byte) (X Y : BitVec 16) (starts : List Time) (start t : Time), s.held = false →
    (∃ a, s.fbc.link = .online (.awaiting x a) ∧ (start - a).toNat ≤ 20000) ∨
      s.fbc.link = .online (.receiving x start) →
    let rate : Nat := match s.fbc.rate with
      | .r9600 => 9600
      | .r19200 => 19200
      | .r38400 => 38400
    starts.head? = some start → starts.length = 10 →
    (∀ i a b, starts[i]? = some a → starts[i + 1]? = some b → (b - a).toNat * rate ≤ (11 + 33) * 1000000) →
    let phase : Option Phase := match status.toNat % 4 with
      | 1 => some .l1
      | 2 => some .l2
      | 3 => some .l3
      | _ => none
    let clamp (v : BitVec 16) : Int := max (-1000) (min 1000 v.toInt)
    let reply : StateReply := ⟨phase, ⟨clamp X, clamp Y⟩, status.getLsbD 4, status.getLsbD 5, tag⟩
    let n := x.consumer
    let quiet : State := { s with time := t, fbc := { s.fbc with link := .online (.quiet t t), frx := .mark } }
    let seen (c : Consumer) : Consumer :=
      { c with
        health := c.health - 1, reading := some ⟨reply.value, s.engine.round⟩, lockout := reply.lockout
        fault := reply.fault }
    let on (c : Consumer) (p : Phase) : Consumer :=
      { seen c with recorded := some p, phaseState := .confirmed, recheck := false, tried := false }
    let kept (c d : Consumer) : State :=
      { quiet with
        consumers := s.consumers.set n (some d)
        ports := if c.health = 40 then s.ports.map fun q => q.raise .link else s.ports }
    let mapped (c : Consumer) : State := match c.phaseState, phase with
      | .unknown, some p => (kept c (on c p)).writeEntry n none p (.observed .first)
      | .confirmed, some p =>
        if c.recorded = some p then kept c (seen c)
        else ((kept c (on c p)).writeEntry n c.recorded p (.observed .external)).raiseAll .unplanned
      | .confirmed, none => kept c { seen c with phaseState := .uncertain, recheck := true, tried := false }
      | .uncertain, some p =>
        if c.recorded = some p then kept c (on c p)
        else (kept c (on c p)).writeEntry n c.recorded p (.observed .recovered)
      | _, _ => kept c (seen c)
    let updated : State := match x.sameRecord, s.consumer? n with
      | true, some c => (mapped c).settleHead
      | _, _ => quiet
    (x.cls = .recheck ∨ x.cls = .sweep → exec (.state status X Y tag ⟨starts, t⟩) s = .next updated) ∧
    (∀ p, x.cls = .query → x.port = some p → exec (.state status X Y tag ⟨starts, t⟩) s = .next
      { updated with
        arb := { s.arb with slots := s.arb.slots.set p ⟨.idle, some (.good n x.address reply s.engine.round)⟩ }
        ports := updated.ports.set p ((updated.ports.get p).raise .query) }) ∧
    (x.cls = .confirm → exec (.state status X Y tag ⟨starts, t⟩) s = .next (updated.resultOnClass x (.state reply))) ∧
    (x.cls = .issue → exec (.state status X Y tag ⟨starts, t⟩) s = .next { s with time := t })

/-- The confirm reply decides the move: DONE on the target, FAILED on the source or the third phase with its OBSERVED
entry, and for OPEN the next attempt or LOST (R4, R8, R10, R11, R96, R97, R98). That the reply is one command, told by
the moments of its characters, is the model's choice (log 12). -/
def Obligations.ConfirmReplyDecidesTheOutcome : Prop :=
  ∀ (s : State) (x : Txn) (status tag : Byte) (X Y : BitVec 16) (starts : List Time) (start t : Time)
    (r : MoveRecord) (rest : List MoveRecord) (c : Consumer), s.held = false →
    (∃ a, s.fbc.link = .online (.awaiting x a) ∧ (start - a).toNat ≤ 20000) ∨
      s.fbc.link = .online (.receiving x start) →
    let rate : Nat := match s.fbc.rate with
      | .r9600 => 9600
      | .r19200 => 19200
      | .r38400 => 38400
    starts.head? = some start → starts.length = 10 →
    (∀ i a b, starts[i]? = some a → starts[i + 1]? = some b → (b - a).toNat * rate ≤ (11 + 33) * 1000000) →
    x.cls = .confirm → x.sameRecord = true →
    s.queue.records = r :: rest → r.state = .confirming → r.consumer = x.consumer → r.source ≠ r.target →
    s.consumer? r.consumer = some c → c.phaseState = .moving →
    let clamp (v : BitVec 16) : Int := max (-1000) (min 1000 v.toInt)
    let seen : Consumer :=
      { c with
        health := c.health - 1, reading := some ⟨⟨clamp X, clamp Y⟩, s.engine.round⟩, lockout := status.getLsbD 4
        fault := status.getLsbD 5 }
    let on (p : Phase) : Consumer :=
      { seen with recorded := some p, phaseState := .confirmed, recheck := false, tried := false }
    let worn (d : Consumer) : Consumer := { d with ops := min 63 (c.ops + 1), lastMove := some s.engine.round }
    let state (records : List MoveRecord) (d : Consumer) : State :=
      { s with
        time := t
        fbc := { s.fbc with link := .online (.quiet t t), frx := .mark }
        queue := { s.queue with records := records }
        consumers := s.consumers.set r.consumer (some d)
        ports := if c.health = 40 then s.ports.map fun q => q.raise .link else s.ports }
    let ended (d : Consumer) (o : Outcome) : State :=
      (state rest d).writeEntry r.consumer (some r.source) r.target (.moveEnd r.id r.origin o none)
    let answer := exec (.state status X Y tag ⟨starts, t⟩) s
    (status.toNat % 4 = phaseCode r.target → answer = .next (ended (worn (on r.target)) .done).settleHead) ∧
    (status.toNat % 4 = phaseCode r.source → answer = .next (ended (on r.source) .failed).settleHead) ∧
    (∀ p, status.toNat % 4 = phaseCode p → p ≠ r.target → p ≠ r.source → answer = .next
      (((ended (on p) .failed).writeEntry r.consumer (some r.source) p (.observed .external)).raiseAll
        .unplanned).settleHead) ∧
    (status.toNat % 4 = 0 → r.confirmAttempts < 3 → answer = .next
      (state ({ r with wait := some 5, waitEnded := false, attemptDue := false } :: rest) seen)) ∧
    (status.toNat % 4 = 0 → 3 ≤ r.confirmAttempts → answer = .next
      (ended (worn { seen with phaseState := .uncertain, recheck := true, tried := false }) .lost).settleHead)

/-- An ANSWER to a MOVE attempt, with one of the five verdicts: a foreign tag fails the attempt (R92); ACCEPT goes to
SWITCHING (R90, R94); BUSY fails the attempt with the unit's health as GOOD (R92, R154); PHASE, LOCKOUT and NOVOLT end the
record REFUSED with the map's side of R12 (R91, R98). A code that is no verdict has failed the attempt KIND in the event of
the verdict byte, a REPLY_FAILED of five characters (R132): a whole ANSWER with it is no event (the model's, log 2 and log
12). That the reply is one command, told by the moments of its characters, is the model's choice (log 12). -/
def Obligations.AnswerDecidesTheAttempt : Prop :=
  ∀ (s : State) (x : Txn) (tag verdict : Byte) (starts : List Time) (start t : Time) (r : MoveRecord)
    (rest : List MoveRecord) (c : Consumer), s.held = false →
    (∃ a, s.fbc.link = .online (.awaiting x a) ∧ (start - a).toNat ≤ 20000) ∨
      s.fbc.link = .online (.receiving x start) →
    let rate : Nat := match s.fbc.rate with
      | .r9600 => 9600
      | .r19200 => 19200
      | .r38400 => 38400
    starts.head? = some start → starts.length = 6 →
    (∀ i a b, starts[i]? = some a → starts[i + 1]? = some b → (b - a).toNat * rate ≤ (11 + 33) * 1000000) →
    x.cls = .issue → x.sameRecord = true →
    s.queue.records = r :: rest → r.state = .issuing → r.consumer = x.consumer → s.consumer? r.consumer = some c →
    let code := verdict.toNat % 16
    let present := verdict.toNat / 16 % 4
    let state (records : List MoveRecord) (d : Consumer) (link : Bool) : State :=
      { s with
        time := t
        fbc := { s.fbc with link := .online (.quiet t t), frx := .mark }
        queue := { s.queue with records := records }
        consumers := s.consumers.set r.consumer (some d)
        ports := if link then s.ports.map fun q => q.raise .link else s.ports }
    let good : Consumer := { c with health := c.health - 1 }
    let bad : Consumer := { c with health := min 160 (c.health + 4) }
    let switching : MoveRecord :=
      { r with
        state := .switching, wait := some ((r.deadTime.getD 0 + 1) / 2 + 6), waitEnded := false, attemptDue := false }
    let again : MoveRecord :=
      if r.issueAttempts < 3 ∧ s.mtu.mains = .valid then
        { r with wait := some 2, waitEnded := false, attemptDue := false }
      else switching
    let on (p : Phase) : Consumer :=
      { good with recorded := some p, phaseState := .confirmed, recheck := false, tried := false }
    let refused (d : Consumer) (v : Refused) : State :=
      (state rest d (c.health == 40)).writeEntry r.consumer (some r.source) r.target
        (.moveEnd r.id r.origin .refused (some v))
    let answer := exec (.answer tag verdict ⟨starts, t⟩) s
    let own := tag = r.id.setWidth 8
    (code = 0 ∨ 6 ≤ code → answer = .next { s with time := t }) ∧
    (1 ≤ code → code ≤ 5 → ¬own → answer = .next
      (state (again :: rest) bad (decide (116 ≤ c.health ∧ c.health ≤ 119)))) ∧
    (own → code = 1 → answer = .next (state (switching :: rest) good (c.health == 40))) ∧
    (own → code = 5 → answer = .next (state (again :: rest) good (c.health == 40))) ∧
    (own → code = 3 → answer = .next (refused { on r.source with lockout := true } .lockout).settleHead) ∧
    (own → code = 4 → answer = .next (refused (on r.source) .novolt).settleHead) ∧
    (own → code = 2 → present = 0 → answer = .next
      (refused { good with phaseState := .uncertain, recheck := true, tried := false } .phase).settleHead) ∧
    (own → code = 2 → present = phaseCode r.source → answer = .next (refused (on r.source) .phase).settleHead) ∧
    (∀ p, own → code = 2 → present = phaseCode p → p ≠ r.source → answer = .next
      (((refused (on p) .phase).writeEntry r.consumer (some r.source) p (.observed .external)).raiseAll
        .unplanned).settleHead)

/-! ### What every step keeps -/

/-- The journal stays consecutive and bounded, and no port has more unread than the ring holds (R159, R161, R162). -/
def Obligations.EveryStepKeepsTheJournalSound : Prop :=
  ∀ s t : State, s.journal.wf → step s = .next t → t.journal.wf

/-- The map and the queue agree: NONE exactly in UNKNOWN, MOVING exactly for the record in flight, at most 16 records and
only the head in flight, no record off its source at the head (R5, R80, R81, R87); every target lies in its consumer's
allowed set (R2, R80, R88); and no QUEUED record stands that STOP, HOLD, FREEZE or REMOVE should have ended (R16, R21, R29,
R30, R60). -/
def Obligations.EveryStepKeepsMapAndQueueInAgreement : Prop :=
  ∀ s t : State, s.movesWf → s.blockedWf → step s = .next t → t.movesWf ∧ t.blockedWf

/-- The mains state is ABSENT exactly when all phases are LOST, VALID only with all PRESENT and eight good checks, and the
settings stay in range (R103, R106, R108, R111, R113). -/
def Obligations.EveryStepKeepsTheMainsSound : Prop :=
  ∀ s t : State, s.mainsWf → step s = .next t → t.mainsWf

/-- Count, limits, freezes, addresses, segments, costs and both policy sets stay in their ranges, the addresses unique
(R1, R20, R23, R24, R25, R28, R35); and so do the readings, the frozen readings, the head report and what the round in hand
has copied of them (R15, R32, R40, R133). -/
def Obligations.EveryStepKeepsTheFeederInRange : Prop :=
  ∀ s t : State, s.feederWf → step s = .next t → t.feederWf

/-- Starvation count, sweep pointer and sweep count stay in range, and query slots, arrival order and the transaction in
progress agree (R144, R146, R149, R151). -/
def Obligations.EveryStepKeepsTheArbiterSound : Prop :=
  ∀ s t : State, s.arbiterWf → step s = .next t → t.arbiterWf

/-- The reset state meets every one of these invariants. -/
def Obligations.ResetMeetsEveryInvariant : Prop :=
  State.reset.journal.wf ∧ State.reset.movesWf ∧ State.reset.blockedWf ∧ State.reset.mainsWf ∧
    State.reset.feederWf ∧ State.reset.arbiterWf

/-- The round number moves by exactly 1, at a latch alone, and is set to 0 by POR alone (R63). -/
def Obligations.RoundNumberCountsTheLatches : Prop :=
  ∀ (i : Instr) (s t : State), exec i s = .next t →
    (t.engine.round = s.engine.round) ∨
    ((∃ u, i = .powerOnReset u) ∧ t.engine.round = 0) ∨
    ((i = .roundTimerExpiry ∨ i = .windowExpiry ∨ i = .holdExpiry ∨ i = .expired) ∧
      s.held = false ∧ s.engine.expiryDue = true ∧ s.engine.work = none ∧
      t.engine.round = s.engine.round + 1 ∧ ∃ w, t.engine.work = some w ∧ w.round = t.engine.round)

end
end

