-- ==== Sys2Proof/Laws/State.lean ====
section
/-! SUPPORT. What each record update of the model leaves alone: one lemma per field per update, true by unfolding. -/

namespace Sys2Proof.Machine

variable (s : State)

@[simp] theorem State.at_held (t : Time) : (s.at t).held = s.held := rfl
@[simp] theorem State.at_restartDue (t : Time) : (s.at t).restartDue = s.restartDue := rfl
@[simp] theorem State.at_consumers (t : Time) : (s.at t).consumers = s.consumers := rfl
@[simp] theorem State.at_segs (t : Time) : (s.at t).segs = s.segs := rfl
@[simp] theorem State.at_policy (t : Time) : (s.at t).policy = s.policy := rfl
@[simp] theorem State.at_engine (t : Time) : (s.at t).engine = s.engine := rfl
@[simp] theorem State.at_queue (t : Time) : (s.at t).queue = s.queue := rfl
@[simp] theorem State.at_mtu (t : Time) : (s.at t).mtu = s.mtu := rfl
@[simp] theorem State.at_fbc (t : Time) : (s.at t).fbc = s.fbc := rfl
@[simp] theorem State.at_arb (t : Time) : (s.at t).arb = s.arb := rfl
@[simp] theorem State.at_journal (t : Time) : (s.at t).journal = s.journal := rfl
@[simp] theorem State.at_ports (t : Time) : (s.at t).ports = s.ports := rfl
@[simp] theorem State.at_freeCount (t : Time) : (s.at t).freeCount = s.freeCount := rfl
@[simp] theorem State.at_pending (t : Time) : (s.at t).pending = s.pending := rfl

@[simp] theorem State.setWindow_time (p : Port) (w : Window) : (s.setWindow p w).time = s.time := rfl
@[simp] theorem State.setWindow_held (p : Port) (w : Window) : (s.setWindow p w).held = s.held := rfl
@[simp] theorem State.setWindow_restartDue (p : Port) (w : Window) : (s.setWindow p w).restartDue = s.restartDue := rfl
@[simp] theorem State.setWindow_consumers (p : Port) (w : Window) : (s.setWindow p w).consumers = s.consumers := rfl
@[simp] theorem State.setWindow_segs (p : Port) (w : Window) : (s.setWindow p w).segs = s.segs := rfl
@[simp] theorem State.setWindow_policy (p : Port) (w : Window) : (s.setWindow p w).policy = s.policy := rfl
@[simp] theorem State.setWindow_engine (p : Port) (w : Window) : (s.setWindow p w).engine = s.engine := rfl
@[simp] theorem State.setWindow_queue (p : Port) (w : Window) : (s.setWindow p w).queue = s.queue := rfl
@[simp] theorem State.setWindow_mtu (p : Port) (w : Window) : (s.setWindow p w).mtu = s.mtu := rfl
@[simp] theorem State.setWindow_fbc (p : Port) (w : Window) : (s.setWindow p w).fbc = s.fbc := rfl
@[simp] theorem State.setWindow_arb (p : Port) (w : Window) : (s.setWindow p w).arb = s.arb := rfl
@[simp] theorem State.setWindow_journal (p : Port) (w : Window) : (s.setWindow p w).journal = s.journal := rfl
@[simp] theorem State.setWindow_freeCount (p : Port) (w : Window) : (s.setWindow p w).freeCount = s.freeCount := rfl
@[simp] theorem State.setWindow_pending (p : Port) (w : Window) : (s.setWindow p w).pending = s.pending := rfl

@[simp] theorem State.raise_time (p : Port) (f : Flag) : (s.raise p f).time = s.time := rfl
@[simp] theorem State.raise_held (p : Port) (f : Flag) : (s.raise p f).held = s.held := rfl
@[simp] theorem State.raise_restartDue (p : Port) (f : Flag) : (s.raise p f).restartDue = s.restartDue := rfl
@[simp] theorem State.raise_consumers (p : Port) (f : Flag) : (s.raise p f).consumers = s.consumers := rfl
@[simp] theorem State.raise_segs (p : Port) (f : Flag) : (s.raise p f).segs = s.segs := rfl
@[simp] theorem State.raise_policy (p : Port) (f : Flag) : (s.raise p f).policy = s.policy := rfl
@[simp] theorem State.raise_engine (p : Port) (f : Flag) : (s.raise p f).engine = s.engine := rfl
@[simp] theorem State.raise_queue (p : Port) (f : Flag) : (s.raise p f).queue = s.queue := rfl
@[simp] theorem State.raise_mtu (p : Port) (f : Flag) : (s.raise p f).mtu = s.mtu := rfl
@[simp] theorem State.raise_fbc (p : Port) (f : Flag) : (s.raise p f).fbc = s.fbc := rfl
@[simp] theorem State.raise_arb (p : Port) (f : Flag) : (s.raise p f).arb = s.arb := rfl
@[simp] theorem State.raise_journal (p : Port) (f : Flag) : (s.raise p f).journal = s.journal := rfl
@[simp] theorem State.raise_freeCount (p : Port) (f : Flag) : (s.raise p f).freeCount = s.freeCount := rfl
@[simp] theorem State.raise_pending (p : Port) (f : Flag) : (s.raise p f).pending = s.pending := rfl

@[simp] theorem State.raiseAll_time (f : Flag) : (s.raiseAll f).time = s.time := rfl
@[simp] theorem State.raiseAll_held (f : Flag) : (s.raiseAll f).held = s.held := rfl
@[simp] theorem State.raiseAll_restartDue (f : Flag) : (s.raiseAll f).restartDue = s.restartDue := rfl
@[simp] theorem State.raiseAll_consumers (f : Flag) : (s.raiseAll f).consumers = s.consumers := rfl
@[simp] theorem State.raiseAll_segs (f : Flag) : (s.raiseAll f).segs = s.segs := rfl
@[simp] theorem State.raiseAll_policy (f : Flag) : (s.raiseAll f).policy = s.policy := rfl
@[simp] theorem State.raiseAll_engine (f : Flag) : (s.raiseAll f).engine = s.engine := rfl
@[simp] theorem State.raiseAll_queue (f : Flag) : (s.raiseAll f).queue = s.queue := rfl
@[simp] theorem State.raiseAll_mtu (f : Flag) : (s.raiseAll f).mtu = s.mtu := rfl
@[simp] theorem State.raiseAll_fbc (f : Flag) : (s.raiseAll f).fbc = s.fbc := rfl
@[simp] theorem State.raiseAll_arb (f : Flag) : (s.raiseAll f).arb = s.arb := rfl
@[simp] theorem State.raiseAll_journal (f : Flag) : (s.raiseAll f).journal = s.journal := rfl
@[simp] theorem State.raiseAll_freeCount (f : Flag) : (s.raiseAll f).freeCount = s.freeCount := rfl
@[simp] theorem State.raiseAll_pending (f : Flag) : (s.raiseAll f).pending = s.pending := rfl

@[simp] theorem State.putPort_time (p : Port) (q : PortState) : (s.putPort p q).time = s.time := rfl
@[simp] theorem State.putPort_held (p : Port) (q : PortState) : (s.putPort p q).held = s.held := rfl
@[simp] theorem State.putPort_restartDue (p : Port) (q : PortState) : (s.putPort p q).restartDue = s.restartDue := rfl
@[simp] theorem State.putPort_consumers (p : Port) (q : PortState) : (s.putPort p q).consumers = s.consumers := rfl
@[simp] theorem State.putPort_segs (p : Port) (q : PortState) : (s.putPort p q).segs = s.segs := rfl
@[simp] theorem State.putPort_policy (p : Port) (q : PortState) : (s.putPort p q).policy = s.policy := rfl
@[simp] theorem State.putPort_engine (p : Port) (q : PortState) : (s.putPort p q).engine = s.engine := rfl
@[simp] theorem State.putPort_queue (p : Port) (q : PortState) : (s.putPort p q).queue = s.queue := rfl
@[simp] theorem State.putPort_mtu (p : Port) (q : PortState) : (s.putPort p q).mtu = s.mtu := rfl
@[simp] theorem State.putPort_fbc (p : Port) (q : PortState) : (s.putPort p q).fbc = s.fbc := rfl
@[simp] theorem State.putPort_arb (p : Port) (q : PortState) : (s.putPort p q).arb = s.arb := rfl
@[simp] theorem State.putPort_journal (p : Port) (q : PortState) : (s.putPort p q).journal = s.journal := rfl
@[simp] theorem State.putPort_freeCount (p : Port) (q : PortState) : (s.putPort p q).freeCount = s.freeCount := rfl
@[simp] theorem State.putPort_pending (p : Port) (q : PortState) : (s.putPort p q).pending = s.pending := rfl

@[simp] theorem State.putConsumer_time (n : Nat) (r : Option Consumer) : (s.putConsumer n r).time = s.time := rfl
@[simp] theorem State.putConsumer_held (n : Nat) (r : Option Consumer) : (s.putConsumer n r).held = s.held := rfl
@[simp] theorem State.putConsumer_restartDue (n : Nat) (r : Option Consumer) : (s.putConsumer n r).restartDue = s.restartDue := rfl
@[simp] theorem State.putConsumer_segs (n : Nat) (r : Option Consumer) : (s.putConsumer n r).segs = s.segs := rfl
@[simp] theorem State.putConsumer_policy (n : Nat) (r : Option Consumer) : (s.putConsumer n r).policy = s.policy := rfl
@[simp] theorem State.putConsumer_engine (n : Nat) (r : Option Consumer) : (s.putConsumer n r).engine = s.engine := rfl
@[simp] theorem State.putConsumer_queue (n : Nat) (r : Option Consumer) : (s.putConsumer n r).queue = s.queue := rfl
@[simp] theorem State.putConsumer_mtu (n : Nat) (r : Option Consumer) : (s.putConsumer n r).mtu = s.mtu := rfl
@[simp] theorem State.putConsumer_fbc (n : Nat) (r : Option Consumer) : (s.putConsumer n r).fbc = s.fbc := rfl
@[simp] theorem State.putConsumer_arb (n : Nat) (r : Option Consumer) : (s.putConsumer n r).arb = s.arb := rfl
@[simp] theorem State.putConsumer_journal (n : Nat) (r : Option Consumer) : (s.putConsumer n r).journal = s.journal := rfl
@[simp] theorem State.putConsumer_ports (n : Nat) (r : Option Consumer) : (s.putConsumer n r).ports = s.ports := rfl
@[simp] theorem State.putConsumer_freeCount (n : Nat) (r : Option Consumer) : (s.putConsumer n r).freeCount = s.freeCount := rfl
@[simp] theorem State.putConsumer_pending (n : Nat) (r : Option Consumer) : (s.putConsumer n r).pending = s.pending := rfl

@[simp] theorem State.mapConsumers_time (f : Consumer → Consumer) : (s.mapConsumers f).time = s.time := rfl
@[simp] theorem State.mapConsumers_held (f : Consumer → Consumer) : (s.mapConsumers f).held = s.held := rfl
@[simp] theorem State.mapConsumers_restartDue (f : Consumer → Consumer) : (s.mapConsumers f).restartDue = s.restartDue := rfl
@[simp] theorem State.mapConsumers_segs (f : Consumer → Consumer) : (s.mapConsumers f).segs = s.segs := rfl
@[simp] theorem State.mapConsumers_policy (f : Consumer → Consumer) : (s.mapConsumers f).policy = s.policy := rfl
@[simp] theorem State.mapConsumers_engine (f : Consumer → Consumer) : (s.mapConsumers f).engine = s.engine := rfl
@[simp] theorem State.mapConsumers_queue (f : Consumer → Consumer) : (s.mapConsumers f).queue = s.queue := rfl
@[simp] theorem State.mapConsumers_mtu (f : Consumer → Consumer) : (s.mapConsumers f).mtu = s.mtu := rfl
@[simp] theorem State.mapConsumers_fbc (f : Consumer → Consumer) : (s.mapConsumers f).fbc = s.fbc := rfl
@[simp] theorem State.mapConsumers_arb (f : Consumer → Consumer) : (s.mapConsumers f).arb = s.arb := rfl
@[simp] theorem State.mapConsumers_journal (f : Consumer → Consumer) : (s.mapConsumers f).journal = s.journal := rfl
@[simp] theorem State.mapConsumers_ports (f : Consumer → Consumer) : (s.mapConsumers f).ports = s.ports := rfl
@[simp] theorem State.mapConsumers_freeCount (f : Consumer → Consumer) : (s.mapConsumers f).freeCount = s.freeCount := rfl
@[simp] theorem State.mapConsumers_pending (f : Consumer → Consumer) : (s.mapConsumers f).pending = s.pending := rfl

@[simp] theorem State.withRecords_time (rs : List MoveRecord) : (s.withRecords rs).time = s.time := rfl
@[simp] theorem State.withRecords_held (rs : List MoveRecord) : (s.withRecords rs).held = s.held := rfl
@[simp] theorem State.withRecords_restartDue (rs : List MoveRecord) : (s.withRecords rs).restartDue = s.restartDue := rfl
@[simp] theorem State.withRecords_consumers (rs : List MoveRecord) : (s.withRecords rs).consumers = s.consumers := rfl
@[simp] theorem State.withRecords_segs (rs : List MoveRecord) : (s.withRecords rs).segs = s.segs := rfl
@[simp] theorem State.withRecords_policy (rs : List MoveRecord) : (s.withRecords rs).policy = s.policy := rfl
@[simp] theorem State.withRecords_engine (rs : List MoveRecord) : (s.withRecords rs).engine = s.engine := rfl
@[simp] theorem State.withRecords_mtu (rs : List MoveRecord) : (s.withRecords rs).mtu = s.mtu := rfl
@[simp] theorem State.withRecords_fbc (rs : List MoveRecord) : (s.withRecords rs).fbc = s.fbc := rfl
@[simp] theorem State.withRecords_arb (rs : List MoveRecord) : (s.withRecords rs).arb = s.arb := rfl
@[simp] theorem State.withRecords_journal (rs : List MoveRecord) : (s.withRecords rs).journal = s.journal := rfl
@[simp] theorem State.withRecords_ports (rs : List MoveRecord) : (s.withRecords rs).ports = s.ports := rfl
@[simp] theorem State.withRecords_freeCount (rs : List MoveRecord) : (s.withRecords rs).freeCount = s.freeCount := rfl
@[simp] theorem State.withRecords_pending (rs : List MoveRecord) : (s.withRecords rs).pending = s.pending := rfl

@[simp] theorem State.putHead_time (r : MoveRecord) : (s.putHead r).time = s.time := rfl
@[simp] theorem State.putHead_held (r : MoveRecord) : (s.putHead r).held = s.held := rfl
@[simp] theorem State.putHead_restartDue (r : MoveRecord) : (s.putHead r).restartDue = s.restartDue := rfl
@[simp] theorem State.putHead_consumers (r : MoveRecord) : (s.putHead r).consumers = s.consumers := rfl
@[simp] theorem State.putHead_segs (r : MoveRecord) : (s.putHead r).segs = s.segs := rfl
@[simp] theorem State.putHead_policy (r : MoveRecord) : (s.putHead r).policy = s.policy := rfl
@[simp] theorem State.putHead_engine (r : MoveRecord) : (s.putHead r).engine = s.engine := rfl
@[simp] theorem State.putHead_mtu (r : MoveRecord) : (s.putHead r).mtu = s.mtu := rfl
@[simp] theorem State.putHead_fbc (r : MoveRecord) : (s.putHead r).fbc = s.fbc := rfl
@[simp] theorem State.putHead_arb (r : MoveRecord) : (s.putHead r).arb = s.arb := rfl
@[simp] theorem State.putHead_journal (r : MoveRecord) : (s.putHead r).journal = s.journal := rfl
@[simp] theorem State.putHead_ports (r : MoveRecord) : (s.putHead r).ports = s.ports := rfl
@[simp] theorem State.putHead_freeCount (r : MoveRecord) : (s.putHead r).freeCount = s.freeCount := rfl
@[simp] theorem State.putHead_pending (r : MoveRecord) : (s.putHead r).pending = s.pending := rfl

@[simp] theorem State.makeMove_time (n : Nat) (a b : Phase) (o : Origin) (r : RoundNo) : (s.makeMove n a b o r).time = s.time := rfl
@[simp] theorem State.makeMove_held (n : Nat) (a b : Phase) (o : Origin) (r : RoundNo) : (s.makeMove n a b o r).held = s.held := rfl
@[simp] theorem State.makeMove_restartDue (n : Nat) (a b : Phase) (o : Origin) (r : RoundNo) : (s.makeMove n a b o r).restartDue = s.restartDue := rfl
@[simp] theorem State.makeMove_consumers (n : Nat) (a b : Phase) (o : Origin) (r : RoundNo) : (s.makeMove n a b o r).consumers = s.consumers := rfl
@[simp] theorem State.makeMove_segs (n : Nat) (a b : Phase) (o : Origin) (r : RoundNo) : (s.makeMove n a b o r).segs = s.segs := rfl
@[simp] theorem State.makeMove_policy (n : Nat) (a b : Phase) (o : Origin) (r : RoundNo) : (s.makeMove n a b o r).policy = s.policy := rfl
@[simp] theorem State.makeMove_engine (n : Nat) (a b : Phase) (o : Origin) (r : RoundNo) : (s.makeMove n a b o r).engine = s.engine := rfl
@[simp] theorem State.makeMove_mtu (n : Nat) (a b : Phase) (o : Origin) (r : RoundNo) : (s.makeMove n a b o r).mtu = s.mtu := rfl
@[simp] theorem State.makeMove_fbc (n : Nat) (a b : Phase) (o : Origin) (r : RoundNo) : (s.makeMove n a b o r).fbc = s.fbc := rfl
@[simp] theorem State.makeMove_arb (n : Nat) (a b : Phase) (o : Origin) (r : RoundNo) : (s.makeMove n a b o r).arb = s.arb := rfl
@[simp] theorem State.makeMove_journal (n : Nat) (a b : Phase) (o : Origin) (r : RoundNo) : (s.makeMove n a b o r).journal = s.journal := rfl
@[simp] theorem State.makeMove_ports (n : Nat) (a b : Phase) (o : Origin) (r : RoundNo) : (s.makeMove n a b o r).ports = s.ports := rfl
@[simp] theorem State.makeMove_freeCount (n : Nat) (a b : Phase) (o : Origin) (r : RoundNo) : (s.makeMove n a b o r).freeCount = s.freeCount := rfl
@[simp] theorem State.makeMove_pending (n : Nat) (a b : Phase) (o : Origin) (r : RoundNo) : (s.makeMove n a b o r).pending = s.pending := rfl

@[simp] theorem State.append_time (n : Nat) (a : Option Phase) (b : Phase) (k : EntryKind) : (s.append n a b k).time = s.time := rfl
@[simp] theorem State.append_held (n : Nat) (a : Option Phase) (b : Phase) (k : EntryKind) : (s.append n a b k).held = s.held := rfl
@[simp] theorem State.append_restartDue (n : Nat) (a : Option Phase) (b : Phase) (k : EntryKind) : (s.append n a b k).restartDue = s.restartDue := rfl
@[simp] theorem State.append_consumers (n : Nat) (a : Option Phase) (b : Phase) (k : EntryKind) : (s.append n a b k).consumers = s.consumers := rfl
@[simp] theorem State.append_segs (n : Nat) (a : Option Phase) (b : Phase) (k : EntryKind) : (s.append n a b k).segs = s.segs := rfl
@[simp] theorem State.append_policy (n : Nat) (a : Option Phase) (b : Phase) (k : EntryKind) : (s.append n a b k).policy = s.policy := rfl
@[simp] theorem State.append_engine (n : Nat) (a : Option Phase) (b : Phase) (k : EntryKind) : (s.append n a b k).engine = s.engine := rfl
@[simp] theorem State.append_queue (n : Nat) (a : Option Phase) (b : Phase) (k : EntryKind) : (s.append n a b k).queue = s.queue := rfl
@[simp] theorem State.append_mtu (n : Nat) (a : Option Phase) (b : Phase) (k : EntryKind) : (s.append n a b k).mtu = s.mtu := rfl
@[simp] theorem State.append_fbc (n : Nat) (a : Option Phase) (b : Phase) (k : EntryKind) : (s.append n a b k).fbc = s.fbc := rfl
@[simp] theorem State.append_arb (n : Nat) (a : Option Phase) (b : Phase) (k : EntryKind) : (s.append n a b k).arb = s.arb := rfl
@[simp] theorem State.append_freeCount (n : Nat) (a : Option Phase) (b : Phase) (k : EntryKind) : (s.append n a b k).freeCount = s.freeCount := rfl
@[simp] theorem State.append_pending (n : Nat) (a : Option Phase) (b : Phase) (k : EntryKind) : (s.append n a b k).pending = s.pending := rfl

@[simp] theorem State.putSegment_time (k : Nat) (r : Segment) : (s.putSegment k r).time = s.time := rfl
@[simp] theorem State.putSegment_held (k : Nat) (r : Segment) : (s.putSegment k r).held = s.held := rfl
@[simp] theorem State.putSegment_restartDue (k : Nat) (r : Segment) : (s.putSegment k r).restartDue = s.restartDue := rfl
@[simp] theorem State.putSegment_consumers (k : Nat) (r : Segment) : (s.putSegment k r).consumers = s.consumers := rfl
@[simp] theorem State.putSegment_policy (k : Nat) (r : Segment) : (s.putSegment k r).policy = s.policy := rfl
@[simp] theorem State.putSegment_engine (k : Nat) (r : Segment) : (s.putSegment k r).engine = s.engine := rfl
@[simp] theorem State.putSegment_queue (k : Nat) (r : Segment) : (s.putSegment k r).queue = s.queue := rfl
@[simp] theorem State.putSegment_mtu (k : Nat) (r : Segment) : (s.putSegment k r).mtu = s.mtu := rfl
@[simp] theorem State.putSegment_fbc (k : Nat) (r : Segment) : (s.putSegment k r).fbc = s.fbc := rfl
@[simp] theorem State.putSegment_arb (k : Nat) (r : Segment) : (s.putSegment k r).arb = s.arb := rfl
@[simp] theorem State.putSegment_journal (k : Nat) (r : Segment) : (s.putSegment k r).journal = s.journal := rfl
@[simp] theorem State.putSegment_ports (k : Nat) (r : Segment) : (s.putSegment k r).ports = s.ports := rfl
@[simp] theorem State.putSegment_freeCount (k : Nat) (r : Segment) : (s.putSegment k r).freeCount = s.freeCount := rfl
@[simp] theorem State.putSegment_pending (k : Nat) (r : Segment) : (s.putSegment k r).pending = s.pending := rfl

@[simp] theorem State.putPin_time (p : Phase) (q : Qualifier) : (s.putPin p q).time = s.time := rfl
@[simp] theorem State.putPin_held (p : Phase) (q : Qualifier) : (s.putPin p q).held = s.held := rfl
@[simp] theorem State.putPin_restartDue (p : Phase) (q : Qualifier) : (s.putPin p q).restartDue = s.restartDue := rfl
@[simp] theorem State.putPin_consumers (p : Phase) (q : Qualifier) : (s.putPin p q).consumers = s.consumers := rfl
@[simp] theorem State.putPin_segs (p : Phase) (q : Qualifier) : (s.putPin p q).segs = s.segs := rfl
@[simp] theorem State.putPin_policy (p : Phase) (q : Qualifier) : (s.putPin p q).policy = s.policy := rfl
@[simp] theorem State.putPin_engine (p : Phase) (q : Qualifier) : (s.putPin p q).engine = s.engine := rfl
@[simp] theorem State.putPin_queue (p : Phase) (q : Qualifier) : (s.putPin p q).queue = s.queue := rfl
@[simp] theorem State.putPin_fbc (p : Phase) (q : Qualifier) : (s.putPin p q).fbc = s.fbc := rfl
@[simp] theorem State.putPin_arb (p : Phase) (q : Qualifier) : (s.putPin p q).arb = s.arb := rfl
@[simp] theorem State.putPin_journal (p : Phase) (q : Qualifier) : (s.putPin p q).journal = s.journal := rfl
@[simp] theorem State.putPin_ports (p : Phase) (q : Qualifier) : (s.putPin p q).ports = s.ports := rfl
@[simp] theorem State.putPin_freeCount (p : Phase) (q : Qualifier) : (s.putPin p q).freeCount = s.freeCount := rfl
@[simp] theorem State.putPin_pending (p : Phase) (q : Qualifier) : (s.putPin p q).pending = s.pending := rfl

@[simp] theorem State.recordFault_time (c : FaultCause) : (s.recordFault c).time = s.time := rfl
@[simp] theorem State.recordFault_held (c : FaultCause) : (s.recordFault c).held = s.held := rfl
@[simp] theorem State.recordFault_restartDue (c : FaultCause) : (s.recordFault c).restartDue = s.restartDue := rfl
@[simp] theorem State.recordFault_consumers (c : FaultCause) : (s.recordFault c).consumers = s.consumers := rfl
@[simp] theorem State.recordFault_segs (c : FaultCause) : (s.recordFault c).segs = s.segs := rfl
@[simp] theorem State.recordFault_policy (c : FaultCause) : (s.recordFault c).policy = s.policy := rfl
@[simp] theorem State.recordFault_engine (c : FaultCause) : (s.recordFault c).engine = s.engine := rfl
@[simp] theorem State.recordFault_queue (c : FaultCause) : (s.recordFault c).queue = s.queue := rfl
@[simp] theorem State.recordFault_fbc (c : FaultCause) : (s.recordFault c).fbc = s.fbc := rfl
@[simp] theorem State.recordFault_arb (c : FaultCause) : (s.recordFault c).arb = s.arb := rfl
@[simp] theorem State.recordFault_journal (c : FaultCause) : (s.recordFault c).journal = s.journal := rfl
@[simp] theorem State.recordFault_ports (c : FaultCause) : (s.recordFault c).ports = s.ports := rfl
@[simp] theorem State.recordFault_freeCount (c : FaultCause) : (s.recordFault c).freeCount = s.freeCount := rfl
@[simp] theorem State.recordFault_pending (c : FaultCause) : (s.recordFault c).pending = s.pending := rfl

@[simp] theorem State.putLink_time (l : Link) : (s.putLink l).time = s.time := rfl
@[simp] theorem State.putLink_held (l : Link) : (s.putLink l).held = s.held := rfl
@[simp] theorem State.putLink_restartDue (l : Link) : (s.putLink l).restartDue = s.restartDue := rfl
@[simp] theorem State.putLink_consumers (l : Link) : (s.putLink l).consumers = s.consumers := rfl
@[simp] theorem State.putLink_segs (l : Link) : (s.putLink l).segs = s.segs := rfl
@[simp] theorem State.putLink_policy (l : Link) : (s.putLink l).policy = s.policy := rfl
@[simp] theorem State.putLink_engine (l : Link) : (s.putLink l).engine = s.engine := rfl
@[simp] theorem State.putLink_queue (l : Link) : (s.putLink l).queue = s.queue := rfl
@[simp] theorem State.putLink_mtu (l : Link) : (s.putLink l).mtu = s.mtu := rfl
@[simp] theorem State.putLink_arb (l : Link) : (s.putLink l).arb = s.arb := rfl
@[simp] theorem State.putLink_journal (l : Link) : (s.putLink l).journal = s.journal := rfl
@[simp] theorem State.putLink_ports (l : Link) : (s.putLink l).ports = s.ports := rfl
@[simp] theorem State.putLink_freeCount (l : Link) : (s.putLink l).freeCount = s.freeCount := rfl
@[simp] theorem State.putLink_pending (l : Link) : (s.putLink l).pending = s.pending := rfl

@[simp] theorem State.contend_time : (s.contend).time = s.time := rfl
@[simp] theorem State.contend_held : (s.contend).held = s.held := rfl
@[simp] theorem State.contend_restartDue : (s.contend).restartDue = s.restartDue := rfl
@[simp] theorem State.contend_consumers : (s.contend).consumers = s.consumers := rfl
@[simp] theorem State.contend_segs : (s.contend).segs = s.segs := rfl
@[simp] theorem State.contend_policy : (s.contend).policy = s.policy := rfl
@[simp] theorem State.contend_engine : (s.contend).engine = s.engine := rfl
@[simp] theorem State.contend_queue : (s.contend).queue = s.queue := rfl
@[simp] theorem State.contend_mtu : (s.contend).mtu = s.mtu := rfl
@[simp] theorem State.contend_arb : (s.contend).arb = s.arb := rfl
@[simp] theorem State.contend_journal : (s.contend).journal = s.journal := rfl
@[simp] theorem State.contend_ports : (s.contend).ports = s.ports := rfl
@[simp] theorem State.contend_freeCount : (s.contend).freeCount = s.freeCount := rfl
@[simp] theorem State.contend_pending : (s.contend).pending = s.pending := rfl

@[simp] theorem State.contendAt_time (z : Time) : (s.contendAt z).time = s.time := rfl
@[simp] theorem State.contendAt_held (z : Time) : (s.contendAt z).held = s.held := rfl
@[simp] theorem State.contendAt_restartDue (z : Time) : (s.contendAt z).restartDue = s.restartDue := rfl
@[simp] theorem State.contendAt_consumers (z : Time) : (s.contendAt z).consumers = s.consumers := rfl
@[simp] theorem State.contendAt_segs (z : Time) : (s.contendAt z).segs = s.segs := rfl
@[simp] theorem State.contendAt_policy (z : Time) : (s.contendAt z).policy = s.policy := rfl
@[simp] theorem State.contendAt_engine (z : Time) : (s.contendAt z).engine = s.engine := rfl
@[simp] theorem State.contendAt_queue (z : Time) : (s.contendAt z).queue = s.queue := rfl
@[simp] theorem State.contendAt_mtu (z : Time) : (s.contendAt z).mtu = s.mtu := rfl
@[simp] theorem State.contendAt_arb (z : Time) : (s.contendAt z).arb = s.arb := rfl
@[simp] theorem State.contendAt_journal (z : Time) : (s.contendAt z).journal = s.journal := rfl
@[simp] theorem State.contendAt_ports (z : Time) : (s.contendAt z).ports = s.ports := rfl
@[simp] theorem State.contendAt_freeCount (z : Time) : (s.contendAt z).freeCount = s.freeCount := rfl
@[simp] theorem State.contendAt_pending (z : Time) : (s.contendAt z).pending = s.pending := rfl

@[simp] theorem State.setFrx_time (l : Line) : (s.setFrx l).time = s.time := rfl
@[simp] theorem State.setFrx_held (l : Line) : (s.setFrx l).held = s.held := rfl
@[simp] theorem State.setFrx_restartDue (l : Line) : (s.setFrx l).restartDue = s.restartDue := rfl
@[simp] theorem State.setFrx_consumers (l : Line) : (s.setFrx l).consumers = s.consumers := rfl
@[simp] theorem State.setFrx_segs (l : Line) : (s.setFrx l).segs = s.segs := rfl
@[simp] theorem State.setFrx_policy (l : Line) : (s.setFrx l).policy = s.policy := rfl
@[simp] theorem State.setFrx_engine (l : Line) : (s.setFrx l).engine = s.engine := rfl
@[simp] theorem State.setFrx_queue (l : Line) : (s.setFrx l).queue = s.queue := rfl
@[simp] theorem State.setFrx_mtu (l : Line) : (s.setFrx l).mtu = s.mtu := rfl
@[simp] theorem State.setFrx_arb (l : Line) : (s.setFrx l).arb = s.arb := rfl
@[simp] theorem State.setFrx_journal (l : Line) : (s.setFrx l).journal = s.journal := rfl
@[simp] theorem State.setFrx_ports (l : Line) : (s.setFrx l).ports = s.ports := rfl
@[simp] theorem State.setFrx_freeCount (l : Line) : (s.setFrx l).freeCount = s.freeCount := rfl
@[simp] theorem State.setFrx_pending (l : Line) : (s.setFrx l).pending = s.pending := rfl

section
variable (e : Engine)
@[simp] theorem Engine.markReplaced_run (n : Nat) : (e.markReplaced n).run = e.run := rfl
@[simp] theorem Engine.markReplaced_timer (n : Nat) : (e.markReplaced n).timer = e.timer := rfl
@[simp] theorem Engine.markReplaced_expiryDue (n : Nat) : (e.markReplaced n).expiryDue = e.expiryDue := rfl
@[simp] theorem Engine.markReplaced_round (n : Nat) : (e.markReplaced n).round = e.round := rfl
@[simp] theorem Engine.markReplaced_window (n : Nat) : (e.markReplaced n).window = e.window := rfl
@[simp] theorem Engine.markReplaced_summary (n : Nat) : (e.markReplaced n).summary = e.summary := rfl
@[simp] theorem Engine.markReplaced_work (n : Nat) :
    (e.markReplaced n).work = e.work.map fun w => { w with replaced := w.replaced.insert n } := rfl
end

@[simp] theorem State.markReplaced_time (n : Nat) : (s.markReplaced n).time = s.time := rfl
@[simp] theorem State.markReplaced_held (n : Nat) : (s.markReplaced n).held = s.held := rfl
@[simp] theorem State.markReplaced_restartDue (n : Nat) : (s.markReplaced n).restartDue = s.restartDue := rfl
@[simp] theorem State.markReplaced_consumers (n : Nat) : (s.markReplaced n).consumers = s.consumers := rfl
@[simp] theorem State.markReplaced_segs (n : Nat) : (s.markReplaced n).segs = s.segs := rfl
@[simp] theorem State.markReplaced_policy (n : Nat) : (s.markReplaced n).policy = s.policy := rfl
@[simp] theorem State.markReplaced_engine (n : Nat) : (s.markReplaced n).engine = s.engine.markReplaced n := rfl
@[simp] theorem State.markReplaced_queue (n : Nat) : (s.markReplaced n).queue = s.queue := rfl
@[simp] theorem State.markReplaced_mtu (n : Nat) : (s.markReplaced n).mtu = s.mtu := rfl
@[simp] theorem State.markReplaced_arb (n : Nat) : (s.markReplaced n).arb = s.arb := rfl
@[simp] theorem State.markReplaced_journal (n : Nat) : (s.markReplaced n).journal = s.journal := rfl
@[simp] theorem State.markReplaced_ports (n : Nat) : (s.markReplaced n).ports = s.ports := rfl
@[simp] theorem State.markReplaced_freeCount (n : Nat) : (s.markReplaced n).freeCount = s.freeCount := rfl
@[simp] theorem State.markReplaced_pending (n : Nat) : (s.markReplaced n).pending = s.pending := rfl

@[simp] theorem State.putSlot_time (p : Port) (q : Slot) : (s.putSlot p q).time = s.time := rfl
@[simp] theorem State.putSlot_held (p : Port) (q : Slot) : (s.putSlot p q).held = s.held := rfl
@[simp] theorem State.putSlot_restartDue (p : Port) (q : Slot) : (s.putSlot p q).restartDue = s.restartDue := rfl
@[simp] theorem State.putSlot_consumers (p : Port) (q : Slot) : (s.putSlot p q).consumers = s.consumers := rfl
@[simp] theorem State.putSlot_segs (p : Port) (q : Slot) : (s.putSlot p q).segs = s.segs := rfl
@[simp] theorem State.putSlot_policy (p : Port) (q : Slot) : (s.putSlot p q).policy = s.policy := rfl
@[simp] theorem State.putSlot_engine (p : Port) (q : Slot) : (s.putSlot p q).engine = s.engine := rfl
@[simp] theorem State.putSlot_queue (p : Port) (q : Slot) : (s.putSlot p q).queue = s.queue := rfl
@[simp] theorem State.putSlot_mtu (p : Port) (q : Slot) : (s.putSlot p q).mtu = s.mtu := rfl
@[simp] theorem State.putSlot_fbc (p : Port) (q : Slot) : (s.putSlot p q).fbc = s.fbc := rfl
@[simp] theorem State.putSlot_journal (p : Port) (q : Slot) : (s.putSlot p q).journal = s.journal := rfl
@[simp] theorem State.putSlot_ports (p : Port) (q : Slot) : (s.putSlot p q).ports = s.ports := rfl
@[simp] theorem State.putSlot_freeCount (p : Port) (q : Slot) : (s.putSlot p q).freeCount = s.freeCount := rfl
@[simp] theorem State.putSlot_pending (p : Port) (q : Slot) : (s.putSlot p q).pending = s.pending := rfl

@[simp] theorem State.completeQuery_time (p : Port) (r : QueryResult) : (s.completeQuery p r).time = s.time := rfl
@[simp] theorem State.completeQuery_held (p : Port) (r : QueryResult) : (s.completeQuery p r).held = s.held := rfl
@[simp] theorem State.completeQuery_restartDue (p : Port) (r : QueryResult) : (s.completeQuery p r).restartDue = s.restartDue := rfl
@[simp] theorem State.completeQuery_consumers (p : Port) (r : QueryResult) : (s.completeQuery p r).consumers = s.consumers := rfl
@[simp] theorem State.completeQuery_segs (p : Port) (r : QueryResult) : (s.completeQuery p r).segs = s.segs := rfl
@[simp] theorem State.completeQuery_policy (p : Port) (r : QueryResult) : (s.completeQuery p r).policy = s.policy := rfl
@[simp] theorem State.completeQuery_engine (p : Port) (r : QueryResult) : (s.completeQuery p r).engine = s.engine := rfl
@[simp] theorem State.completeQuery_queue (p : Port) (r : QueryResult) : (s.completeQuery p r).queue = s.queue := rfl
@[simp] theorem State.completeQuery_mtu (p : Port) (r : QueryResult) : (s.completeQuery p r).mtu = s.mtu := rfl
@[simp] theorem State.completeQuery_fbc (p : Port) (r : QueryResult) : (s.completeQuery p r).fbc = s.fbc := rfl
@[simp] theorem State.completeQuery_journal (p : Port) (r : QueryResult) : (s.completeQuery p r).journal = s.journal := rfl
@[simp] theorem State.completeQuery_freeCount (p : Port) (r : QueryResult) : (s.completeQuery p r).freeCount = s.freeCount := rfl
@[simp] theorem State.completeQuery_pending (p : Port) (r : QueryResult) : (s.completeQuery p r).pending = s.pending := rfl

@[simp] theorem State.begin_time (t : Txn) : (s.begin t).time = s.time := rfl
@[simp] theorem State.begin_held (t : Txn) : (s.begin t).held = s.held := rfl
@[simp] theorem State.begin_restartDue (t : Txn) : (s.begin t).restartDue = s.restartDue := rfl
@[simp] theorem State.begin_consumers (t : Txn) : (s.begin t).consumers = s.consumers := rfl
@[simp] theorem State.begin_segs (t : Txn) : (s.begin t).segs = s.segs := rfl
@[simp] theorem State.begin_policy (t : Txn) : (s.begin t).policy = s.policy := rfl
@[simp] theorem State.begin_engine (t : Txn) : (s.begin t).engine = s.engine := rfl
@[simp] theorem State.begin_queue (t : Txn) : (s.begin t).queue = s.queue := rfl
@[simp] theorem State.begin_mtu (t : Txn) : (s.begin t).mtu = s.mtu := rfl
@[simp] theorem State.begin_journal (t : Txn) : (s.begin t).journal = s.journal := rfl
@[simp] theorem State.begin_ports (t : Txn) : (s.begin t).ports = s.ports := rfl
@[simp] theorem State.begin_freeCount (t : Txn) : (s.begin t).freeCount = s.freeCount := rfl
@[simp] theorem State.begin_pending (t : Txn) : (s.begin t).pending = s.pending := rfl

@[simp] theorem State.latchRound_time : (s.latchRound).time = s.time := rfl
@[simp] theorem State.latchRound_held : (s.latchRound).held = s.held := rfl
@[simp] theorem State.latchRound_restartDue : (s.latchRound).restartDue = s.restartDue := rfl
@[simp] theorem State.latchRound_consumers : (s.latchRound).consumers = s.consumers := rfl
@[simp] theorem State.latchRound_segs : (s.latchRound).segs = s.segs := rfl
@[simp] theorem State.latchRound_policy : (s.latchRound).policy = s.policy := rfl
@[simp] theorem State.latchRound_queue : (s.latchRound).queue = s.queue := rfl
@[simp] theorem State.latchRound_mtu : (s.latchRound).mtu = s.mtu := rfl
@[simp] theorem State.latchRound_fbc : (s.latchRound).fbc = s.fbc := rfl
@[simp] theorem State.latchRound_arb : (s.latchRound).arb = s.arb := rfl
@[simp] theorem State.latchRound_journal : (s.latchRound).journal = s.journal := rfl
@[simp] theorem State.latchRound_ports : (s.latchRound).ports = s.ports := rfl
@[simp] theorem State.latchRound_freeCount : (s.latchRound).freeCount = s.freeCount := rfl
@[simp] theorem State.latchRound_pending : (s.latchRound).pending = s.pending := rfl

@[simp] theorem State.latchCopy_time : (s.latchCopy).time = s.time := rfl
@[simp] theorem State.latchCopy_held : (s.latchCopy).held = s.held := rfl
@[simp] theorem State.latchCopy_restartDue : (s.latchCopy).restartDue = s.restartDue := rfl
@[simp] theorem State.latchCopy_consumers : (s.latchCopy).consumers = s.consumers := rfl
@[simp] theorem State.latchCopy_segs : (s.latchCopy).segs = s.segs := rfl
@[simp] theorem State.latchCopy_policy : (s.latchCopy).policy = s.policy := rfl
@[simp] theorem State.latchCopy_queue : (s.latchCopy).queue = s.queue := rfl
@[simp] theorem State.latchCopy_mtu : (s.latchCopy).mtu = s.mtu := rfl
@[simp] theorem State.latchCopy_fbc : (s.latchCopy).fbc = s.fbc := rfl
@[simp] theorem State.latchCopy_arb : (s.latchCopy).arb = s.arb := rfl
@[simp] theorem State.latchCopy_journal : (s.latchCopy).journal = s.journal := rfl
@[simp] theorem State.latchCopy_ports : (s.latchCopy).ports = s.ports := rfl
@[simp] theorem State.latchCopy_freeCount : (s.latchCopy).freeCount = s.freeCount := rfl
@[simp] theorem State.latchCopy_pending : (s.latchCopy).pending = s.pending := rfl

@[simp] theorem State.at_time (t : Time) : (s.at t).time = t := rfl

@[simp] theorem State.putLink_link (l : Link) : (s.putLink l).fbc.link = l := rfl
@[simp] theorem State.setFrx_link (l : Line) : (s.setFrx l).fbc.link = s.fbc.link := rfl
@[simp] theorem State.setFrx_frx (l : Line) : (s.setFrx l).fbc.frx = l := rfl
@[simp] theorem State.putLink_frx (l : Link) : (s.putLink l).fbc.frx = s.fbc.frx := rfl

@[simp] theorem State.withRecords_records (rs : List MoveRecord) : (s.withRecords rs).queue.records = rs := rfl

@[simp] theorem State.withRecords_nextId (rs : List MoveRecord) : (s.withRecords rs).queue.nextId = s.queue.nextId := rfl

@[simp] theorem State.putHead_records (r : MoveRecord) : (s.putHead r).queue.records = r :: s.queue.records.tail := rfl

end Sys2Proof.Machine
end

