-- ==== Sys2Proof/Laws/Frames.lean ====
section
/-! SUPPORT. What each shared operation of the model leaves alone: one frame lemma per operation, a conjunction that simp
uses field by field. A field that a lemma does not name is one that the operation may change. -/

namespace Sys2Proof.Machine

variable (s : State)

@[simp] theorem State.evict_frame :
    s.evict.time = s.time ∧ s.evict.held = s.held ∧ s.evict.restartDue = s.restartDue ∧
    s.evict.consumers = s.consumers ∧ s.evict.segs = s.segs ∧ s.evict.policy = s.policy ∧
    s.evict.engine = s.engine ∧ s.evict.queue = s.queue ∧ s.evict.mtu = s.mtu ∧
    s.evict.fbc = s.fbc ∧ s.evict.arb = s.arb ∧ s.evict.freeCount = s.freeCount ∧
    s.evict.pending = s.pending := by
  unfold State.evict; split <;> simp

@[simp] theorem State.writeEntry_frame (n : Nat) (b : Option Phase) (a : Phase) (k : EntryKind) :
    (s.writeEntry n b a k).time = s.time ∧ (s.writeEntry n b a k).held = s.held ∧
    (s.writeEntry n b a k).restartDue = s.restartDue ∧ (s.writeEntry n b a k).consumers = s.consumers ∧
    (s.writeEntry n b a k).segs = s.segs ∧ (s.writeEntry n b a k).policy = s.policy ∧
    (s.writeEntry n b a k).engine = s.engine ∧ (s.writeEntry n b a k).queue = s.queue ∧
    (s.writeEntry n b a k).mtu = s.mtu ∧ (s.writeEntry n b a k).fbc = s.fbc ∧
    (s.writeEntry n b a k).arb = s.arb ∧ (s.writeEntry n b a k).freeCount = s.freeCount ∧
    (s.writeEntry n b a k).pending = s.pending := by
  unfold State.writeEntry; split <;> simp

@[simp] theorem State.writeObserved_frame (n : Nat) (b : Option Phase) (a : Phase) (c : Cause) :
    (s.writeObserved n b a c).time = s.time ∧ (s.writeObserved n b a c).held = s.held ∧
    (s.writeObserved n b a c).restartDue = s.restartDue ∧ (s.writeObserved n b a c).consumers = s.consumers ∧
    (s.writeObserved n b a c).segs = s.segs ∧ (s.writeObserved n b a c).policy = s.policy ∧
    (s.writeObserved n b a c).engine = s.engine ∧ (s.writeObserved n b a c).queue = s.queue ∧
    (s.writeObserved n b a c).mtu = s.mtu ∧ (s.writeObserved n b a c).fbc = s.fbc ∧
    (s.writeObserved n b a c).arb = s.arb ∧ (s.writeObserved n b a c).freeCount = s.freeCount ∧
    (s.writeObserved n b a c).pending = s.pending := by
  unfold State.writeObserved; dsimp only; split <;> simp

@[simp] theorem State.writeMoveEnd_frame (r : MoveRecord) (o : Outcome) (v : Option Refused) :
    (s.writeMoveEnd r o v).time = s.time ∧ (s.writeMoveEnd r o v).held = s.held ∧
    (s.writeMoveEnd r o v).restartDue = s.restartDue ∧ (s.writeMoveEnd r o v).consumers = s.consumers ∧
    (s.writeMoveEnd r o v).segs = s.segs ∧ (s.writeMoveEnd r o v).policy = s.policy ∧
    (s.writeMoveEnd r o v).engine = s.engine ∧ (s.writeMoveEnd r o v).queue = s.queue ∧
    (s.writeMoveEnd r o v).mtu = s.mtu ∧ (s.writeMoveEnd r o v).fbc = s.fbc ∧
    (s.writeMoveEnd r o v).arb = s.arb ∧ (s.writeMoveEnd r o v).freeCount = s.freeCount ∧
    (s.writeMoveEnd r o v).pending = s.pending := by
  simp [State.writeMoveEnd]

@[simp] theorem State.writeRemoved_frame (rs : List MoveRecord) (o : Outcome) :
    (s.writeRemoved rs o).time = s.time ∧ (s.writeRemoved rs o).held = s.held ∧
    (s.writeRemoved rs o).restartDue = s.restartDue ∧ (s.writeRemoved rs o).consumers = s.consumers ∧
    (s.writeRemoved rs o).segs = s.segs ∧ (s.writeRemoved rs o).policy = s.policy ∧
    (s.writeRemoved rs o).engine = s.engine ∧ (s.writeRemoved rs o).queue = s.queue ∧
    (s.writeRemoved rs o).mtu = s.mtu ∧ (s.writeRemoved rs o).fbc = s.fbc ∧
    (s.writeRemoved rs o).arb = s.arb ∧ (s.writeRemoved rs o).freeCount = s.freeCount ∧
    (s.writeRemoved rs o).pending = s.pending := by
  unfold State.writeRemoved
  induction rs generalizing s with
  | nil => simp
  | cons r rs ih => simpa using ih (s.writeMoveEnd r o none)

@[simp] theorem State.updateConsumer_frame (n : Nat) (f : Consumer → Consumer) :
    (s.updateConsumer n f).time = s.time ∧ (s.updateConsumer n f).held = s.held ∧
    (s.updateConsumer n f).restartDue = s.restartDue ∧ (s.updateConsumer n f).segs = s.segs ∧
    (s.updateConsumer n f).policy = s.policy ∧ (s.updateConsumer n f).engine = s.engine ∧
    (s.updateConsumer n f).queue = s.queue ∧ (s.updateConsumer n f).mtu = s.mtu ∧
    (s.updateConsumer n f).fbc = s.fbc ∧ (s.updateConsumer n f).arb = s.arb ∧
    (s.updateConsumer n f).journal = s.journal ∧ (s.updateConsumer n f).ports = s.ports ∧
    (s.updateConsumer n f).freeCount = s.freeCount ∧ (s.updateConsumer n f).pending = s.pending := by
  unfold State.updateConsumer; split <;> simp

@[simp] theorem State.settleHead_frame :
    s.settleHead.time = s.time ∧ s.settleHead.held = s.held ∧ s.settleHead.restartDue = s.restartDue ∧
    s.settleHead.consumers = s.consumers ∧ s.settleHead.segs = s.segs ∧ s.settleHead.policy = s.policy ∧
    s.settleHead.engine = s.engine ∧ s.settleHead.mtu = s.mtu ∧ s.settleHead.fbc = s.fbc ∧
    s.settleHead.arb = s.arb ∧ s.settleHead.freeCount = s.freeCount ∧ s.settleHead.pending = s.pending := by
  simp [State.settleHead]

@[simp] theorem State.removeQueued_frame (which : MoveRecord → Bool) (o : Outcome) :
    (s.removeQueued which o).time = s.time ∧ (s.removeQueued which o).held = s.held ∧
    (s.removeQueued which o).restartDue = s.restartDue ∧ (s.removeQueued which o).consumers = s.consumers ∧
    (s.removeQueued which o).segs = s.segs ∧ (s.removeQueued which o).policy = s.policy ∧
    (s.removeQueued which o).engine = s.engine ∧ (s.removeQueued which o).mtu = s.mtu ∧
    (s.removeQueued which o).fbc = s.fbc ∧ (s.removeQueued which o).arb = s.arb ∧
    (s.removeQueued which o).freeCount = s.freeCount ∧ (s.removeQueued which o).pending = s.pending := by
  simp [State.removeQueued]

@[simp] theorem State.attemptFailed_frame (r : MoveRecord) :
    (s.attemptFailed r).time = s.time ∧ (s.attemptFailed r).held = s.held ∧
    (s.attemptFailed r).restartDue = s.restartDue ∧ (s.attemptFailed r).consumers = s.consumers ∧
    (s.attemptFailed r).segs = s.segs ∧ (s.attemptFailed r).policy = s.policy ∧
    (s.attemptFailed r).engine = s.engine ∧ (s.attemptFailed r).mtu = s.mtu ∧
    (s.attemptFailed r).fbc = s.fbc ∧ (s.attemptFailed r).arb = s.arb ∧
    (s.attemptFailed r).journal = s.journal ∧ (s.attemptFailed r).ports = s.ports ∧
    (s.attemptFailed r).freeCount = s.freeCount ∧ (s.attemptFailed r).pending = s.pending := by
  simp [State.attemptFailed]

@[simp] theorem State.repeatOrSwitch_frame (r : MoveRecord) :
    (s.repeatOrSwitch r).time = s.time ∧ (s.repeatOrSwitch r).held = s.held ∧
    (s.repeatOrSwitch r).restartDue = s.restartDue ∧ (s.repeatOrSwitch r).consumers = s.consumers ∧
    (s.repeatOrSwitch r).segs = s.segs ∧ (s.repeatOrSwitch r).policy = s.policy ∧
    (s.repeatOrSwitch r).engine = s.engine ∧ (s.repeatOrSwitch r).mtu = s.mtu ∧
    (s.repeatOrSwitch r).fbc = s.fbc ∧ (s.repeatOrSwitch r).arb = s.arb ∧
    (s.repeatOrSwitch r).journal = s.journal ∧ (s.repeatOrSwitch r).ports = s.ports ∧
    (s.repeatOrSwitch r).freeCount = s.freeCount ∧ (s.repeatOrSwitch r).pending = s.pending := by
  simp [State.repeatOrSwitch]

@[simp] theorem State.mainsLeftValid_frame :
    s.mainsLeftValid.time = s.time ∧ s.mainsLeftValid.held = s.held ∧
    s.mainsLeftValid.restartDue = s.restartDue ∧ s.mainsLeftValid.consumers = s.consumers ∧
    s.mainsLeftValid.segs = s.segs ∧ s.mainsLeftValid.policy = s.policy ∧
    s.mainsLeftValid.engine = s.engine ∧ s.mainsLeftValid.mtu = s.mtu ∧
    s.mainsLeftValid.fbc = s.fbc ∧ s.mainsLeftValid.arb = s.arb ∧
    s.mainsLeftValid.journal = s.journal ∧ s.mainsLeftValid.ports = s.ports ∧
    s.mainsLeftValid.freeCount = s.freeCount ∧ s.mainsLeftValid.pending = s.pending := by
  unfold State.mainsLeftValid; split <;> (try split) <;> simp

@[simp] theorem State.endMove_frame (r : MoveRecord) (o : Outcome) (v : Option Refused) (m : Consumer → Consumer) (q : Option Phase) :
    (s.endMove r o v m q).time = s.time ∧ (s.endMove r o v m q).held = s.held ∧
    (s.endMove r o v m q).restartDue = s.restartDue ∧ (s.endMove r o v m q).segs = s.segs ∧
    (s.endMove r o v m q).policy = s.policy ∧ (s.endMove r o v m q).engine = s.engine ∧
    (s.endMove r o v m q).mtu = s.mtu ∧ (s.endMove r o v m q).fbc = s.fbc ∧
    (s.endMove r o v m q).arb = s.arb ∧ (s.endMove r o v m q).freeCount = s.freeCount ∧
    (s.endMove r o v m q).pending = s.pending := by
  unfold State.endMove; dsimp only; split <;> simp

@[simp] theorem State.confirmed_frame (r : MoveRecord) (p : Phase) :
    (s.confirmed r p).time = s.time ∧ (s.confirmed r p).held = s.held ∧ (s.confirmed r p).restartDue = s.restartDue ∧
    (s.confirmed r p).segs = s.segs ∧ (s.confirmed r p).policy = s.policy ∧ (s.confirmed r p).engine = s.engine ∧
    (s.confirmed r p).mtu = s.mtu ∧ (s.confirmed r p).fbc = s.fbc ∧ (s.confirmed r p).arb = s.arb ∧
    (s.confirmed r p).freeCount = s.freeCount ∧ (s.confirmed r p).pending = s.pending := by
  unfold State.confirmed; split <;> (try split) <;> simp

@[simp] theorem State.lost_frame (r : MoveRecord) :
    (s.lost r).time = s.time ∧ (s.lost r).held = s.held ∧ (s.lost r).restartDue = s.restartDue ∧
    (s.lost r).segs = s.segs ∧ (s.lost r).policy = s.policy ∧ (s.lost r).engine = s.engine ∧
    (s.lost r).mtu = s.mtu ∧ (s.lost r).fbc = s.fbc ∧ (s.lost r).arb = s.arb ∧
    (s.lost r).freeCount = s.freeCount ∧ (s.lost r).pending = s.pending := by
  simp [State.lost]

@[simp] theorem State.confirmFailed_frame (r : MoveRecord) :
    (s.confirmFailed r).time = s.time ∧ (s.confirmFailed r).held = s.held ∧
    (s.confirmFailed r).restartDue = s.restartDue ∧ (s.confirmFailed r).segs = s.segs ∧
    (s.confirmFailed r).policy = s.policy ∧ (s.confirmFailed r).engine = s.engine ∧
    (s.confirmFailed r).mtu = s.mtu ∧ (s.confirmFailed r).fbc = s.fbc ∧
    (s.confirmFailed r).arb = s.arb ∧ (s.confirmFailed r).freeCount = s.freeCount ∧
    (s.confirmFailed r).pending = s.pending := by
  unfold State.confirmFailed; split <;> simp

@[simp] theorem State.refusedMove_frame (r : MoveRecord) (v : Refused) (p : Reported) :
    (s.refusedMove r v p).time = s.time ∧ (s.refusedMove r v p).held = s.held ∧
    (s.refusedMove r v p).restartDue = s.restartDue ∧ (s.refusedMove r v p).segs = s.segs ∧
    (s.refusedMove r v p).policy = s.policy ∧ (s.refusedMove r v p).engine = s.engine ∧
    (s.refusedMove r v p).mtu = s.mtu ∧ (s.refusedMove r v p).fbc = s.fbc ∧
    (s.refusedMove r v p).arb = s.arb ∧ (s.refusedMove r v p).freeCount = s.freeCount ∧
    (s.refusedMove r v p).pending = s.pending := by
  unfold State.refusedMove; split <;> simp

@[simp] theorem State.moveAnswered_frame (r : MoveRecord) (v : Verdict) (p : Reported) :
    (s.moveAnswered r v p).time = s.time ∧ (s.moveAnswered r v p).held = s.held ∧
    (s.moveAnswered r v p).restartDue = s.restartDue ∧ (s.moveAnswered r v p).segs = s.segs ∧
    (s.moveAnswered r v p).policy = s.policy ∧ (s.moveAnswered r v p).engine = s.engine ∧
    (s.moveAnswered r v p).mtu = s.mtu ∧ (s.moveAnswered r v p).fbc = s.fbc ∧
    (s.moveAnswered r v p).arb = s.arb ∧ (s.moveAnswered r v p).freeCount = s.freeCount ∧
    (s.moveAnswered r v p).pending = s.pending := by
  unfold State.moveAnswered; split <;> simp

@[simp] theorem State.scoreHealth_frame (n : Nat) (g : Bool) :
    (s.scoreHealth n g).time = s.time ∧ (s.scoreHealth n g).held = s.held ∧
    (s.scoreHealth n g).restartDue = s.restartDue ∧ (s.scoreHealth n g).segs = s.segs ∧
    (s.scoreHealth n g).policy = s.policy ∧ (s.scoreHealth n g).engine = s.engine ∧
    (s.scoreHealth n g).queue = s.queue ∧ (s.scoreHealth n g).mtu = s.mtu ∧
    (s.scoreHealth n g).fbc = s.fbc ∧ (s.scoreHealth n g).arb = s.arb ∧
    (s.scoreHealth n g).journal = s.journal ∧ (s.scoreHealth n g).freeCount = s.freeCount ∧
    (s.scoreHealth n g).pending = s.pending := by
  unfold State.scoreHealth; split <;> (try dsimp only) <;> (try split) <;> simp

@[simp] theorem State.applyReply_frame (n : Nat) (r : StateReply) :
    (s.applyReply n r).time = s.time ∧ (s.applyReply n r).held = s.held ∧
    (s.applyReply n r).restartDue = s.restartDue ∧ (s.applyReply n r).segs = s.segs ∧
    (s.applyReply n r).policy = s.policy ∧ (s.applyReply n r).engine = s.engine ∧
    (s.applyReply n r).mtu = s.mtu ∧ (s.applyReply n r).fbc = s.fbc ∧
    (s.applyReply n r).arb = s.arb ∧ (s.applyReply n r).freeCount = s.freeCount ∧
    (s.applyReply n r).pending = s.pending := by
  unfold State.applyReply
  split
  · simp
  · dsimp only
    simp only [State.settleHead_frame]
    split <;> (try split) <;> simp

@[simp] theorem State.resultOnRecord_frame (t : Txn) (r : TxnResult) :
    (s.resultOnRecord t r).time = s.time ∧ (s.resultOnRecord t r).held = s.held ∧
    (s.resultOnRecord t r).restartDue = s.restartDue ∧ (s.resultOnRecord t r).segs = s.segs ∧
    (s.resultOnRecord t r).policy = s.policy ∧ (s.resultOnRecord t r).engine = s.engine ∧
    (s.resultOnRecord t r).mtu = s.mtu ∧ (s.resultOnRecord t r).fbc = s.fbc ∧
    (s.resultOnRecord t r).arb = s.arb ∧ (s.resultOnRecord t r).freeCount = s.freeCount ∧
    (s.resultOnRecord t r).pending = s.pending := by
  unfold State.resultOnRecord
  split
  · dsimp only; split <;> split <;> simp
  · simp

@[simp] theorem State.issueResult_frame (m : MoveRecord) (r : TxnResult) :
    (s.issueResult m r).time = s.time ∧ (s.issueResult m r).held = s.held ∧
    (s.issueResult m r).restartDue = s.restartDue ∧ (s.issueResult m r).segs = s.segs ∧
    (s.issueResult m r).policy = s.policy ∧ (s.issueResult m r).engine = s.engine ∧
    (s.issueResult m r).mtu = s.mtu ∧ (s.issueResult m r).fbc = s.fbc ∧
    (s.issueResult m r).arb = s.arb ∧ (s.issueResult m r).freeCount = s.freeCount ∧
    (s.issueResult m r).pending = s.pending := by
  unfold State.issueResult; split <;> (try split) <;> simp

@[simp] theorem State.confirmResult_frame (m : MoveRecord) (r : TxnResult) :
    (s.confirmResult m r).time = s.time ∧ (s.confirmResult m r).held = s.held ∧
    (s.confirmResult m r).restartDue = s.restartDue ∧ (s.confirmResult m r).segs = s.segs ∧
    (s.confirmResult m r).policy = s.policy ∧ (s.confirmResult m r).engine = s.engine ∧
    (s.confirmResult m r).mtu = s.mtu ∧ (s.confirmResult m r).fbc = s.fbc ∧
    (s.confirmResult m r).arb = s.arb ∧ (s.confirmResult m r).freeCount = s.freeCount ∧
    (s.confirmResult m r).pending = s.pending := by
  unfold State.confirmResult; split <;> simp

@[simp] theorem State.queryAbandoned_frame (p : Port) (n : Nat) :
    (s.queryAbandoned p n).time = s.time ∧ (s.queryAbandoned p n).held = s.held ∧
    (s.queryAbandoned p n).restartDue = s.restartDue ∧ (s.queryAbandoned p n).consumers = s.consumers ∧
    (s.queryAbandoned p n).segs = s.segs ∧ (s.queryAbandoned p n).policy = s.policy ∧
    (s.queryAbandoned p n).engine = s.engine ∧ (s.queryAbandoned p n).queue = s.queue ∧
    (s.queryAbandoned p n).mtu = s.mtu ∧ (s.queryAbandoned p n).fbc = s.fbc ∧
    (s.queryAbandoned p n).journal = s.journal ∧ (s.queryAbandoned p n).freeCount = s.freeCount ∧
    (s.queryAbandoned p n).pending = s.pending := by
  unfold State.queryAbandoned; split <;> simp

@[simp] theorem State.queryResult_frame (t : Txn) (p : Port) (r : TxnResult) :
    (s.queryResult t p r).time = s.time ∧ (s.queryResult t p r).held = s.held ∧
    (s.queryResult t p r).restartDue = s.restartDue ∧ (s.queryResult t p r).consumers = s.consumers ∧
    (s.queryResult t p r).segs = s.segs ∧ (s.queryResult t p r).policy = s.policy ∧
    (s.queryResult t p r).engine = s.engine ∧ (s.queryResult t p r).queue = s.queue ∧
    (s.queryResult t p r).mtu = s.mtu ∧ (s.queryResult t p r).fbc = s.fbc ∧
    (s.queryResult t p r).journal = s.journal ∧ (s.queryResult t p r).freeCount = s.freeCount ∧
    (s.queryResult t p r).pending = s.pending := by
  unfold State.queryResult; split <;> simp

@[simp] theorem State.resultOnClass_frame (t : Txn) (r : TxnResult) :
    (s.resultOnClass t r).time = s.time ∧ (s.resultOnClass t r).held = s.held ∧
    (s.resultOnClass t r).restartDue = s.restartDue ∧ (s.resultOnClass t r).segs = s.segs ∧
    (s.resultOnClass t r).policy = s.policy ∧ (s.resultOnClass t r).engine = s.engine ∧
    (s.resultOnClass t r).mtu = s.mtu ∧ (s.resultOnClass t r).fbc = s.fbc ∧
    (s.resultOnClass t r).freeCount = s.freeCount ∧ (s.resultOnClass t r).pending = s.pending := by
  unfold State.resultOnClass; split <;> (try split) <;> (try split) <;> simp

@[simp] theorem State.result_frame (t : Txn) (r : TxnResult) :
    (s.result t r).time = s.time ∧ (s.result t r).held = s.held ∧ (s.result t r).restartDue = s.restartDue ∧
    (s.result t r).segs = s.segs ∧ (s.result t r).policy = s.policy ∧ (s.result t r).engine = s.engine ∧
    (s.result t r).mtu = s.mtu ∧ (s.result t r).fbc = s.fbc ∧ (s.result t r).freeCount = s.freeCount ∧
    (s.result t r).pending = s.pending := by
  simp [State.result]

@[simp] theorem State.sweepEnd_frame :
    s.sweepEnd.time = s.time ∧ s.sweepEnd.held = s.held ∧ s.sweepEnd.restartDue = s.restartDue ∧
    s.sweepEnd.consumers = s.consumers ∧ s.sweepEnd.segs = s.segs ∧ s.sweepEnd.policy = s.policy ∧
    s.sweepEnd.engine = s.engine ∧ s.sweepEnd.queue = s.queue ∧ s.sweepEnd.mtu = s.mtu ∧
    s.sweepEnd.fbc = s.fbc ∧ s.sweepEnd.journal = s.journal ∧ s.sweepEnd.ports = s.ports ∧
    s.sweepEnd.freeCount = s.freeCount ∧ s.sweepEnd.pending = s.pending := by
  unfold State.sweepEnd; split <;> simp

@[simp] theorem State.cycleTick_frame :
    s.cycleTick.time = s.time ∧ s.cycleTick.held = s.held ∧ s.cycleTick.restartDue = s.restartDue ∧
    s.cycleTick.consumers = s.consumers ∧ s.cycleTick.segs = s.segs ∧ s.cycleTick.policy = s.policy ∧
    s.cycleTick.mtu = s.mtu ∧ s.cycleTick.fbc = s.fbc ∧ s.cycleTick.journal = s.journal ∧
    s.cycleTick.ports = s.ports ∧ s.cycleTick.freeCount = s.freeCount ∧ s.cycleTick.pending = s.pending := by
  simp [State.cycleTick]

@[simp] theorem State.setMainsState_frame (m : MainsState) (g : Nat) :
    (s.setMainsState m g).time = s.time ∧ (s.setMainsState m g).held = s.held ∧
    (s.setMainsState m g).restartDue = s.restartDue ∧ (s.setMainsState m g).consumers = s.consumers ∧
    (s.setMainsState m g).segs = s.segs ∧ (s.setMainsState m g).policy = s.policy ∧
    (s.setMainsState m g).engine = s.engine ∧ (s.setMainsState m g).fbc = s.fbc ∧
    (s.setMainsState m g).arb = s.arb ∧ (s.setMainsState m g).journal = s.journal ∧
    (s.setMainsState m g).freeCount = s.freeCount ∧ (s.setMainsState m g).pending = s.pending := by
  unfold State.setMainsState; dsimp only; split <;> (try split) <;> simp

@[simp] theorem State.mainsVerdict_frame (v : CycleVerdict) :
    (s.mainsVerdict v).time = s.time ∧ (s.mainsVerdict v).held = s.held ∧
    (s.mainsVerdict v).restartDue = s.restartDue ∧ (s.mainsVerdict v).consumers = s.consumers ∧
    (s.mainsVerdict v).segs = s.segs ∧ (s.mainsVerdict v).policy = s.policy ∧
    (s.mainsVerdict v).engine = s.engine ∧ (s.mainsVerdict v).fbc = s.fbc ∧
    (s.mainsVerdict v).arb = s.arb ∧ (s.mainsVerdict v).journal = s.journal ∧
    (s.mainsVerdict v).freeCount = s.freeCount ∧ (s.mainsVerdict v).pending = s.pending := by
  unfold State.mainsVerdict; split <;> simp

@[simp] theorem State.mainsLoss_frame :
    s.mainsLoss.time = s.time ∧ s.mainsLoss.held = s.held ∧ s.mainsLoss.restartDue = s.restartDue ∧
    s.mainsLoss.consumers = s.consumers ∧ s.mainsLoss.segs = s.segs ∧ s.mainsLoss.policy = s.policy ∧
    s.mainsLoss.engine = s.engine ∧ s.mainsLoss.fbc = s.fbc ∧ s.mainsLoss.arb = s.arb ∧
    s.mainsLoss.journal = s.journal ∧ s.mainsLoss.freeCount = s.freeCount ∧ s.mainsLoss.pending = s.pending := by
  unfold State.mainsLoss; split <;> simp

@[simp] theorem State.mainsReturn_frame :
    s.mainsReturn.time = s.time ∧ s.mainsReturn.held = s.held ∧ s.mainsReturn.restartDue = s.restartDue ∧
    s.mainsReturn.consumers = s.consumers ∧ s.mainsReturn.segs = s.segs ∧ s.mainsReturn.policy = s.policy ∧
    s.mainsReturn.engine = s.engine ∧ s.mainsReturn.fbc = s.fbc ∧ s.mainsReturn.arb = s.arb ∧
    s.mainsReturn.journal = s.journal ∧ s.mainsReturn.freeCount = s.freeCount ∧ s.mainsReturn.pending = s.pending := by
  unfold State.mainsReturn; split <;> simp

@[simp] theorem State.cycleCheck_frame (st : Time) :
    (s.cycleCheck st).time = s.time ∧ (s.cycleCheck st).held = s.held ∧ (s.cycleCheck st).restartDue = s.restartDue ∧
    (s.cycleCheck st).consumers = s.consumers ∧ (s.cycleCheck st).segs = s.segs ∧ (s.cycleCheck st).policy = s.policy ∧
    (s.cycleCheck st).engine = s.engine ∧ (s.cycleCheck st).fbc = s.fbc ∧ (s.cycleCheck st).arb = s.arb ∧
    (s.cycleCheck st).journal = s.journal ∧ (s.cycleCheck st).freeCount = s.freeCount ∧ (s.cycleCheck st).pending = s.pending := by
  unfold State.cycleCheck; dsimp only; split <;> (try split) <;> simp

@[simp] theorem State.risingEdge_frame (p : Phase) (st : Time) :
    (s.risingEdge p st).time = s.time ∧ (s.risingEdge p st).held = s.held ∧
    (s.risingEdge p st).restartDue = s.restartDue ∧ (s.risingEdge p st).consumers = s.consumers ∧
    (s.risingEdge p st).segs = s.segs ∧ (s.risingEdge p st).policy = s.policy ∧
    (s.risingEdge p st).fbc = s.fbc ∧ (s.risingEdge p st).journal = s.journal ∧
    (s.risingEdge p st).freeCount = s.freeCount ∧ (s.risingEdge p st).pending = s.pending := by
  unfold State.risingEdge; dsimp only; split <;> split <;> simp

@[simp] theorem State.acceptLevel_frame (p : Phase) :
    (s.acceptLevel p).time = s.time ∧ (s.acceptLevel p).held = s.held ∧ (s.acceptLevel p).restartDue = s.restartDue ∧
    (s.acceptLevel p).consumers = s.consumers ∧ (s.acceptLevel p).segs = s.segs ∧ (s.acceptLevel p).policy = s.policy ∧
    (s.acceptLevel p).fbc = s.fbc ∧ (s.acceptLevel p).journal = s.journal ∧ (s.acceptLevel p).freeCount = s.freeCount ∧
    (s.acceptLevel p).pending = s.pending := by
  unfold State.acceptLevel; dsimp only; split <;> simp

@[simp] theorem State.losePhase_frame (p : Phase) :
    (s.losePhase p).time = s.time ∧ (s.losePhase p).held = s.held ∧ (s.losePhase p).restartDue = s.restartDue ∧
    (s.losePhase p).consumers = s.consumers ∧ (s.losePhase p).segs = s.segs ∧ (s.losePhase p).policy = s.policy ∧
    (s.losePhase p).engine = s.engine ∧ (s.losePhase p).fbc = s.fbc ∧ (s.losePhase p).arb = s.arb ∧
    (s.losePhase p).journal = s.journal ∧ (s.losePhase p).freeCount = s.freeCount ∧ (s.losePhase p).pending = s.pending := by
  unfold State.losePhase; dsimp only; split <;> simp

@[simp] theorem State.tickInternal_frame :
    s.tickInternal.time = s.time ∧ s.tickInternal.held = s.held ∧ s.tickInternal.restartDue = s.restartDue ∧
    s.tickInternal.consumers = s.consumers ∧ s.tickInternal.segs = s.segs ∧ s.tickInternal.policy = s.policy ∧
    s.tickInternal.fbc = s.fbc ∧ s.tickInternal.journal = s.journal ∧ s.tickInternal.ports = s.ports ∧
    s.tickInternal.freeCount = s.freeCount ∧ s.tickInternal.pending = s.pending := by
  simp [State.tickInternal]

@[simp] theorem State.takeDue_frame (d : MainsDue) :
    (s.takeDue d).time = s.time ∧ (s.takeDue d).held = s.held ∧ (s.takeDue d).restartDue = s.restartDue ∧
    (s.takeDue d).consumers = s.consumers ∧ (s.takeDue d).segs = s.segs ∧ (s.takeDue d).policy = s.policy ∧
    (s.takeDue d).fbc = s.fbc ∧ (s.takeDue d).journal = s.journal ∧ (s.takeDue d).freeCount = s.freeCount ∧
    (s.takeDue d).pending = s.pending := by
  unfold State.takeDue; split <;> (try split) <;> simp

@[simp] theorem State.takeAll_frame (k : Nat) (ds : List MainsDue) :
    (State.takeAll k s ds).time = s.time ∧ (State.takeAll k s ds).held = s.held ∧
    (State.takeAll k s ds).restartDue = s.restartDue ∧ (State.takeAll k s ds).consumers = s.consumers ∧
    (State.takeAll k s ds).segs = s.segs ∧ (State.takeAll k s ds).policy = s.policy ∧
    (State.takeAll k s ds).fbc = s.fbc ∧ (State.takeAll k s ds).journal = s.journal ∧
    (State.takeAll k s ds).pending = s.pending := by
  induction k generalizing s ds with
  | zero => simp [State.takeAll]
  | succ k ih =>
    match ds with
    | [] => simp [State.takeAll]
    | [d] => simp [State.takeAll]
    | d :: e :: ds => simp [State.takeAll, ih]

@[simp] theorem State.changeMains_frame (m : MainsSettings) :
    (s.changeMains m).time = s.time ∧ (s.changeMains m).held = s.held ∧ (s.changeMains m).restartDue = s.restartDue ∧
    (s.changeMains m).consumers = s.consumers ∧ (s.changeMains m).segs = s.segs ∧ (s.changeMains m).policy = s.policy ∧
    (s.changeMains m).fbc = s.fbc ∧ (s.changeMains m).journal = s.journal ∧ (s.changeMains m).pending = s.pending := by
  simp [State.changeMains]

@[simp] theorem State.pinChange_frame (p : Phase) (l : Level) :
    (s.pinChange p l).time = s.time ∧ (s.pinChange p l).held = s.held ∧ (s.pinChange p l).restartDue = s.restartDue ∧
    (s.pinChange p l).consumers = s.consumers ∧ (s.pinChange p l).segs = s.segs ∧ (s.pinChange p l).policy = s.policy ∧
    (s.pinChange p l).engine = s.engine ∧ (s.pinChange p l).queue = s.queue ∧ (s.pinChange p l).fbc = s.fbc ∧
    (s.pinChange p l).arb = s.arb ∧ (s.pinChange p l).journal = s.journal ∧ (s.pinChange p l).ports = s.ports ∧
    (s.pinChange p l).freeCount = s.freeCount ∧ (s.pinChange p l).pending = s.pending := by
  unfold State.pinChange; dsimp only; split <;> (try split) <;> simp

@[simp] theorem State.grantIssue_frame (r : MoveRecord) :
    (s.grantIssue r).time = s.time ∧ (s.grantIssue r).held = s.held ∧ (s.grantIssue r).restartDue = s.restartDue ∧
    (s.grantIssue r).segs = s.segs ∧ (s.grantIssue r).policy = s.policy ∧ (s.grantIssue r).engine = s.engine ∧
    (s.grantIssue r).mtu = s.mtu ∧ (s.grantIssue r).journal = s.journal ∧ (s.grantIssue r).ports = s.ports ∧
    (s.grantIssue r).freeCount = s.freeCount ∧ (s.grantIssue r).pending = s.pending := by
  simp [State.grantIssue]

@[simp] theorem State.grantConfirm_frame (r : MoveRecord) :
    (s.grantConfirm r).time = s.time ∧ (s.grantConfirm r).held = s.held ∧
    (s.grantConfirm r).restartDue = s.restartDue ∧ (s.grantConfirm r).consumers = s.consumers ∧
    (s.grantConfirm r).segs = s.segs ∧ (s.grantConfirm r).policy = s.policy ∧
    (s.grantConfirm r).engine = s.engine ∧ (s.grantConfirm r).mtu = s.mtu ∧
    (s.grantConfirm r).journal = s.journal ∧ (s.grantConfirm r).ports = s.ports ∧
    (s.grantConfirm r).freeCount = s.freeCount ∧ (s.grantConfirm r).pending = s.pending := by
  simp [State.grantConfirm]

@[simp] theorem State.grantRecheck_frame (n : Nat) :
    (s.grantRecheck n).time = s.time ∧ (s.grantRecheck n).held = s.held ∧
    (s.grantRecheck n).restartDue = s.restartDue ∧ (s.grantRecheck n).segs = s.segs ∧
    (s.grantRecheck n).policy = s.policy ∧ (s.grantRecheck n).engine = s.engine ∧
    (s.grantRecheck n).queue = s.queue ∧ (s.grantRecheck n).mtu = s.mtu ∧
    (s.grantRecheck n).journal = s.journal ∧ (s.grantRecheck n).ports = s.ports ∧
    (s.grantRecheck n).freeCount = s.freeCount ∧ (s.grantRecheck n).pending = s.pending := by
  simp [State.grantRecheck]

@[simp] theorem State.grantQuery_frame (p : Port) (n : Nat) :
    (s.grantQuery p n).time = s.time ∧ (s.grantQuery p n).held = s.held ∧
    (s.grantQuery p n).restartDue = s.restartDue ∧ (s.grantQuery p n).consumers = s.consumers ∧
    (s.grantQuery p n).segs = s.segs ∧ (s.grantQuery p n).policy = s.policy ∧
    (s.grantQuery p n).engine = s.engine ∧ (s.grantQuery p n).queue = s.queue ∧
    (s.grantQuery p n).mtu = s.mtu ∧ (s.grantQuery p n).journal = s.journal ∧
    (s.grantQuery p n).ports = s.ports ∧ (s.grantQuery p n).freeCount = s.freeCount ∧
    (s.grantQuery p n).pending = s.pending := by
  simp [State.grantQuery]

@[simp] theorem State.grantSweep_frame (n : Nat) :
    (s.grantSweep n).time = s.time ∧ (s.grantSweep n).held = s.held ∧ (s.grantSweep n).restartDue = s.restartDue ∧
    (s.grantSweep n).consumers = s.consumers ∧ (s.grantSweep n).segs = s.segs ∧ (s.grantSweep n).policy = s.policy ∧
    (s.grantSweep n).engine = s.engine ∧ (s.grantSweep n).queue = s.queue ∧ (s.grantSweep n).mtu = s.mtu ∧
    (s.grantSweep n).journal = s.journal ∧ (s.grantSweep n).ports = s.ports ∧ (s.grantSweep n).freeCount = s.freeCount ∧
    (s.grantSweep n).pending = s.pending := by
  simp [State.grantSweep]

@[simp] theorem State.endTxn_frame (t : Txn) (r : TxnResult) :
    (s.endTxn t r).time = s.time ∧ (s.endTxn t r).held = s.held ∧ (s.endTxn t r).restartDue = s.restartDue ∧
    (s.endTxn t r).segs = s.segs ∧ (s.endTxn t r).policy = s.policy ∧ (s.endTxn t r).engine = s.engine ∧
    (s.endTxn t r).mtu = s.mtu ∧ (s.endTxn t r).freeCount = s.freeCount ∧ (s.endTxn t r).pending = s.pending := by
  simp [State.endTxn]

@[simp] theorem State.spaceAt_frame (m : Time) :
    (s.spaceAt m).time = s.time ∧ (s.spaceAt m).held = s.held ∧ (s.spaceAt m).restartDue = s.restartDue ∧
    (s.spaceAt m).consumers = s.consumers ∧ (s.spaceAt m).segs = s.segs ∧ (s.spaceAt m).policy = s.policy ∧
    (s.spaceAt m).engine = s.engine ∧ (s.spaceAt m).queue = s.queue ∧ (s.spaceAt m).mtu = s.mtu ∧
    (s.spaceAt m).arb = s.arb ∧ (s.spaceAt m).journal = s.journal ∧ (s.spaceAt m).ports = s.ports ∧
    (s.spaceAt m).freeCount = s.freeCount ∧ (s.spaceAt m).pending = s.pending := by
  unfold State.spaceAt; rcases s.fbc.link with _ | _ | (_ | _ | _ | _ | _) <;> simp

@[simp] theorem State.hear_frame (cs : List RxChar) :
    (s.hear cs).time = s.time ∧ (s.hear cs).held = s.held ∧ (s.hear cs).restartDue = s.restartDue ∧
    (s.hear cs).consumers = s.consumers ∧ (s.hear cs).segs = s.segs ∧ (s.hear cs).policy = s.policy ∧
    (s.hear cs).engine = s.engine ∧ (s.hear cs).queue = s.queue ∧ (s.hear cs).mtu = s.mtu ∧ (s.hear cs).arb = s.arb ∧
    (s.hear cs).journal = s.journal ∧ (s.hear cs).ports = s.ports ∧ (s.hear cs).freeCount = s.freeCount ∧
    (s.hear cs).pending = s.pending := by
  unfold State.hear; cases cs.getLast? <;> simp

@[simp] theorem State.receive_frame (b : Time) (f : Bool) (cs : List RxChar) :
    (s.receive b f cs).time = s.time ∧ (s.receive b f cs).held = s.held ∧
    (s.receive b f cs).restartDue = s.restartDue ∧ (s.receive b f cs).segs = s.segs ∧
    (s.receive b f cs).policy = s.policy ∧ (s.receive b f cs).engine = s.engine ∧ (s.receive b f cs).mtu = s.mtu ∧
    (s.receive b f cs).freeCount = s.freeCount ∧ (s.receive b f cs).pending = s.pending := by
  unfold State.receive
  cases s.replyFrom b with
  | none => dsimp only; split <;> simp
  | some t => dsimp only; generalize replyResult t cs = o; cases f <;> cases o <;> simp

@[simp] theorem State.cutOff_frame (l : Link) :
    (s.cutOff l).time = s.time ∧ (s.cutOff l).held = s.held ∧ (s.cutOff l).restartDue = s.restartDue ∧
    (s.cutOff l).segs = s.segs ∧ (s.cutOff l).policy = s.policy ∧ (s.cutOff l).engine = s.engine ∧
    (s.cutOff l).mtu = s.mtu ∧ (s.cutOff l).freeCount = s.freeCount ∧ (s.cutOff l).pending = s.pending := by
  unfold State.cutOff; split <;> simp

@[simp] theorem State.requestSent_frame (e : List (Option RxChar)) :
    (s.requestSent e).time = s.time ∧ (s.requestSent e).held = s.held ∧ (s.requestSent e).restartDue = s.restartDue ∧
    (s.requestSent e).consumers = s.consumers ∧ (s.requestSent e).segs = s.segs ∧ (s.requestSent e).policy = s.policy ∧
    (s.requestSent e).engine = s.engine ∧ (s.requestSent e).queue = s.queue ∧ (s.requestSent e).mtu = s.mtu ∧
    (s.requestSent e).arb = s.arb ∧ (s.requestSent e).journal = s.journal ∧ (s.requestSent e).ports = s.ports ∧
    (s.requestSent e).freeCount = s.freeCount ∧ (s.requestSent e).pending = s.pending := by
  unfold State.requestSent; split <;> (try split) <;> simp

@[simp] theorem State.contendSending_frame (e : List (Option RxChar)) :
    (s.contendSending e).time = s.time ∧ (s.contendSending e).held = s.held ∧
    (s.contendSending e).restartDue = s.restartDue ∧ (s.contendSending e).segs = s.segs ∧
    (s.contendSending e).policy = s.policy ∧ (s.contendSending e).engine = s.engine ∧
    (s.contendSending e).mtu = s.mtu ∧ (s.contendSending e).freeCount = s.freeCount ∧
    (s.contendSending e).pending = s.pending := by
  unfold State.contendSending; split <;> (try split) <;> simp

@[simp] theorem State.noReply_frame :
    s.noReply.time = s.time ∧ s.noReply.held = s.held ∧ s.noReply.restartDue = s.restartDue ∧
    s.noReply.segs = s.segs ∧ s.noReply.policy = s.policy ∧ s.noReply.engine = s.engine ∧
    s.noReply.mtu = s.mtu ∧ s.noReply.freeCount = s.freeCount ∧ s.noReply.pending = s.pending := by
  unfold State.noReply; split <;> (try split) <;> simp

@[simp] theorem State.gapAfter_frame (cs : List RxAt) :
    (s.gapAfter cs).time = s.time ∧ (s.gapAfter cs).held = s.held ∧ (s.gapAfter cs).restartDue = s.restartDue ∧
    (s.gapAfter cs).segs = s.segs ∧ (s.gapAfter cs).policy = s.policy ∧ (s.gapAfter cs).engine = s.engine ∧
    (s.gapAfter cs).mtu = s.mtu ∧ (s.gapAfter cs).freeCount = s.freeCount ∧ (s.gapAfter cs).pending = s.pending := by
  unfold State.gapAfter; split <;> (try split) <;> (try split) <;> simp

@[simp] theorem State.receiveAt_frame (cs : List RxAt) :
    (s.receiveAt cs).time = s.time ∧ (s.receiveAt cs).held = s.held ∧ (s.receiveAt cs).restartDue = s.restartDue ∧
    (s.receiveAt cs).segs = s.segs ∧ (s.receiveAt cs).policy = s.policy ∧ (s.receiveAt cs).engine = s.engine ∧
    (s.receiveAt cs).mtu = s.mtu ∧ (s.receiveAt cs).freeCount = s.freeCount ∧
    (s.receiveAt cs).pending = s.pending := by
  unfold State.receiveAt; split <;> simp

@[simp] theorem State.receiveFrame_frame (b : List Time) (bs : Nat → List Byte) :
    (s.receiveFrame b bs).time = s.time ∧ (s.receiveFrame b bs).held = s.held ∧
    (s.receiveFrame b bs).restartDue = s.restartDue ∧ (s.receiveFrame b bs).segs = s.segs ∧
    (s.receiveFrame b bs).policy = s.policy ∧ (s.receiveFrame b bs).engine = s.engine ∧
    (s.receiveFrame b bs).mtu = s.mtu ∧ (s.receiveFrame b bs).freeCount = s.freeCount ∧
    (s.receiveFrame b bs).pending = s.pending := by
  unfold State.receiveFrame; split <;> simp

@[simp] theorem State.spaceNow_frame :
    s.spaceNow.time = s.time ∧ s.spaceNow.held = s.held ∧ s.spaceNow.restartDue = s.restartDue ∧
    s.spaceNow.consumers = s.consumers ∧ s.spaceNow.segs = s.segs ∧ s.spaceNow.policy = s.policy ∧
    s.spaceNow.engine = s.engine ∧ s.spaceNow.queue = s.queue ∧ s.spaceNow.mtu = s.mtu ∧ s.spaceNow.arb = s.arb ∧
    s.spaceNow.journal = s.journal ∧ s.spaceNow.ports = s.ports ∧ s.spaceNow.freeCount = s.freeCount ∧
    s.spaceNow.pending = s.pending := by
  unfold State.spaceNow; split <;> (try split) <;> simp

@[simp] theorem State.changeBus_frame (e : Bool) (r : BitRate) :
    (s.changeBus e r).time = s.time ∧ (s.changeBus e r).held = s.held ∧ (s.changeBus e r).restartDue = s.restartDue ∧
    (s.changeBus e r).segs = s.segs ∧ (s.changeBus e r).policy = s.policy ∧ (s.changeBus e r).engine = s.engine ∧
    (s.changeBus e r).mtu = s.mtu ∧ (s.changeBus e r).freeCount = s.freeCount ∧ (s.changeBus e r).pending = s.pending := by
  unfold State.changeBus; dsimp only; split <;> simp

@[simp] theorem State.latchCommit_frame :
    s.latchCommit.time = s.time ∧ s.latchCommit.held = s.held ∧ s.latchCommit.restartDue = s.restartDue ∧
    s.latchCommit.consumers = s.consumers ∧ s.latchCommit.segs = s.segs ∧ s.latchCommit.engine = s.engine ∧
    s.latchCommit.queue = s.queue ∧ s.latchCommit.mtu = s.mtu ∧ s.latchCommit.fbc = s.fbc ∧
    s.latchCommit.arb = s.arb ∧ s.latchCommit.journal = s.journal ∧ s.latchCommit.ports = s.ports ∧
    s.latchCommit.freeCount = s.freeCount ∧ s.latchCommit.pending = s.pending := by
  unfold State.latchCommit; split <;> simp

@[simp] theorem State.latchWindow_frame :
    s.latchWindow.time = s.time ∧ s.latchWindow.held = s.held ∧ s.latchWindow.restartDue = s.restartDue ∧
    s.latchWindow.segs = s.segs ∧ s.latchWindow.policy = s.policy ∧ s.latchWindow.queue = s.queue ∧
    s.latchWindow.mtu = s.mtu ∧ s.latchWindow.fbc = s.fbc ∧ s.latchWindow.arb = s.arb ∧
    s.latchWindow.journal = s.journal ∧ s.latchWindow.ports = s.ports ∧ s.latchWindow.freeCount = s.freeCount ∧
    s.latchWindow.pending = s.pending := by
  unfold State.latchWindow; split <;> simp

@[simp] theorem State.latchHolds_frame :
    s.latchHolds.time = s.time ∧ s.latchHolds.held = s.held ∧ s.latchHolds.restartDue = s.restartDue ∧
    s.latchHolds.segs = s.segs ∧ s.latchHolds.policy = s.policy ∧ s.latchHolds.engine = s.engine ∧
    s.latchHolds.queue = s.queue ∧ s.latchHolds.mtu = s.mtu ∧ s.latchHolds.fbc = s.fbc ∧
    s.latchHolds.arb = s.arb ∧ s.latchHolds.journal = s.journal ∧ s.latchHolds.ports = s.ports ∧
    s.latchHolds.freeCount = s.freeCount ∧ s.latchHolds.pending = s.pending := by
  simp [State.latchHolds]

@[simp] theorem State.latchQueue_frame :
    s.latchQueue.time = s.time ∧ s.latchQueue.held = s.held ∧ s.latchQueue.restartDue = s.restartDue ∧
    s.latchQueue.consumers = s.consumers ∧ s.latchQueue.segs = s.segs ∧ s.latchQueue.policy = s.policy ∧
    s.latchQueue.engine = s.engine ∧ s.latchQueue.mtu = s.mtu ∧ s.latchQueue.fbc = s.fbc ∧
    s.latchQueue.arb = s.arb ∧ s.latchQueue.freeCount = s.freeCount ∧ s.latchQueue.pending = s.pending := by
  simp [State.latchQueue]

@[simp] theorem State.latch_frame :
    s.latch.time = s.time ∧ s.latch.held = s.held ∧ s.latch.restartDue = s.restartDue ∧
    s.latch.segs = s.segs ∧ s.latch.mtu = s.mtu ∧ s.latch.fbc = s.fbc ∧
    s.latch.arb = s.arb ∧ s.latch.freeCount = s.freeCount ∧ s.latch.pending = s.pending := by
  simp [State.latch, State.latchCounted]

@[simp] theorem State.takeExpiry_frame :
    s.takeExpiry.time = s.time ∧ s.takeExpiry.held = s.held ∧ s.takeExpiry.restartDue = s.restartDue ∧
    s.takeExpiry.segs = s.segs ∧ s.takeExpiry.mtu = s.mtu ∧ s.takeExpiry.fbc = s.fbc ∧
    s.takeExpiry.arb = s.arb ∧ s.takeExpiry.freeCount = s.freeCount ∧ s.takeExpiry.pending = s.pending := by
  unfold State.takeExpiry; dsimp only; split <;> simp

@[simp] theorem State.dropWaiting_frame (n : Nat) (p : Port) :
    (State.dropWaiting n s p).time = s.time ∧ (State.dropWaiting n s p).held = s.held ∧
    (State.dropWaiting n s p).restartDue = s.restartDue ∧ (State.dropWaiting n s p).consumers = s.consumers ∧
    (State.dropWaiting n s p).segs = s.segs ∧ (State.dropWaiting n s p).policy = s.policy ∧
    (State.dropWaiting n s p).engine = s.engine ∧ (State.dropWaiting n s p).queue = s.queue ∧
    (State.dropWaiting n s p).mtu = s.mtu ∧ (State.dropWaiting n s p).fbc = s.fbc ∧
    (State.dropWaiting n s p).journal = s.journal ∧ (State.dropWaiting n s p).freeCount = s.freeCount ∧
    (State.dropWaiting n s p).pending = s.pending := by
  unfold State.dropWaiting; split <;> simp

@[simp] theorem State.remove_frame (n : Nat) :
    (s.remove n).time = s.time ∧ (s.remove n).held = s.held ∧ (s.remove n).restartDue = s.restartDue ∧
    (s.remove n).segs = s.segs ∧ (s.remove n).policy = s.policy ∧ (s.remove n).engine = s.engine.markReplaced n ∧
    (s.remove n).queue = s.queue ∧ (s.remove n).mtu = s.mtu ∧ (s.remove n).journal = s.journal ∧
    (s.remove n).freeCount = s.freeCount ∧ (s.remove n).pending = s.pending := by
  simp [State.remove]

@[simp] theorem State.postOne_frame (r : RoundNo) (acc : State × Nat) (m : Selected) :
    (State.postOne r acc m).1.time = acc.1.time ∧ (State.postOne r acc m).1.held = acc.1.held ∧
    (State.postOne r acc m).1.restartDue = acc.1.restartDue ∧ (State.postOne r acc m).1.consumers = acc.1.consumers ∧
    (State.postOne r acc m).1.segs = acc.1.segs ∧ (State.postOne r acc m).1.policy = acc.1.policy ∧
    (State.postOne r acc m).1.engine = acc.1.engine ∧ (State.postOne r acc m).1.mtu = acc.1.mtu ∧
    (State.postOne r acc m).1.fbc = acc.1.fbc ∧ (State.postOne r acc m).1.arb = acc.1.arb ∧
    (State.postOne r acc m).1.journal = acc.1.journal ∧ (State.postOne r acc m).1.ports = acc.1.ports ∧
    (State.postOne r acc m).1.freeCount = acc.1.freeCount ∧ (State.postOne r acc m).1.pending = acc.1.pending := by
  unfold State.postOne; split <;> simp

@[simp] theorem State.post_frame (r : RoundNo) (ms : List Selected) :
    (s.post r ms).1.time = s.time ∧ (s.post r ms).1.held = s.held ∧ (s.post r ms).1.restartDue = s.restartDue ∧
    (s.post r ms).1.consumers = s.consumers ∧ (s.post r ms).1.segs = s.segs ∧ (s.post r ms).1.policy = s.policy ∧
    (s.post r ms).1.engine = s.engine ∧ (s.post r ms).1.mtu = s.mtu ∧ (s.post r ms).1.fbc = s.fbc ∧
    (s.post r ms).1.arb = s.arb ∧ (s.post r ms).1.journal = s.journal ∧ (s.post r ms).1.ports = s.ports ∧
    (s.post r ms).1.freeCount = s.freeCount ∧ (s.post r ms).1.pending = s.pending := by
  unfold State.post
  generalize 0 = k
  induction ms generalizing s k with
  | nil => simp
  | cons m ms ih =>
    simpa using ih (State.postOne r (s, k) m).1 (State.postOne r (s, k) m).2

@[simp] theorem State.complete_frame (w : WorkingSet) :
    (s.complete w).time = s.time ∧ (s.complete w).held = s.held ∧ (s.complete w).restartDue = s.restartDue ∧
    (s.complete w).consumers = s.consumers ∧ (s.complete w).policy = s.policy ∧ (s.complete w).mtu = s.mtu ∧
    (s.complete w).fbc = s.fbc ∧ (s.complete w).arb = s.arb ∧ (s.complete w).journal = s.journal ∧
    (s.complete w).freeCount = s.freeCount ∧ (s.complete w).pending = s.pending := by
  unfold State.complete; dsimp only; split <;> simp

@[simp] theorem State.openWindow_frame (p : Port) :
    (s.openWindow p).time = s.time ∧ (s.openWindow p).held = s.held ∧ (s.openWindow p).restartDue = s.restartDue ∧
    (s.openWindow p).consumers = s.consumers ∧ (s.openWindow p).segs = s.segs ∧ (s.openWindow p).policy = s.policy ∧
    (s.openWindow p).engine = s.engine ∧ (s.openWindow p).queue = s.queue ∧ (s.openWindow p).mtu = s.mtu ∧
    (s.openWindow p).fbc = s.fbc ∧ (s.openWindow p).arb = s.arb ∧ (s.openWindow p).journal = s.journal ∧
    (s.openWindow p).freeCount = s.freeCount ∧ (s.openWindow p).pending = s.pending := by
  unfold State.openWindow; split <;> simp

@[simp] theorem State.hold_frame :
    s.hold.time = s.time ∧ s.hold.consumers = s.consumers ∧ s.hold.segs = s.segs ∧
    s.hold.policy = s.policy ∧ s.hold.engine = s.engine ∧ s.hold.queue = s.queue ∧
    s.hold.mtu = s.mtu ∧ s.hold.arb = s.arb ∧ s.hold.journal = s.journal ∧
    s.hold.freeCount = s.freeCount ∧ s.hold.pending = s.pending := by
  unfold State.hold; dsimp only; split <;> simp

end Sys2Proof.Machine
end

