-- ==== Sys2Proof/Laws/Ops.lean ====
section
/-! SUPPORT. One lemma for each shared operation that says all it can do: requests and events, consumer records, the
journal's writes, and the removal and making of move records. -/

namespace Sys2Proof.Machine

/-! ### Values by port and by phase -/

@[simp] theorem PerPort.get_set {α : Type} (v : PerPort α) (p q : Port) (x : α) :
    (v.set p x).get q = if q = p then x else v.get q := by
  cases p <;> cases q <;> rfl

@[simp] theorem PerPort.get_map {α β : Type} (f : α → β) (v : PerPort α) (p : Port) :
    (v.map f).get p = f (v.get p) := by
  cases p <;> rfl

@[simp] theorem PerPhase.get_set {α : Type} (v : PerPhase α) (p q : Phase) (x : α) :
    (v.set p x).get q = if q = p then x else v.get q := by
  cases p <;> cases q <;> rfl

@[simp] theorem PerPhase.get_map {α β : Type} (f : α → β) (v : PerPhase α) (p : Phase) :
    (v.map f).get p = f (v.get p) := by
  cases p <;> rfl

/-- Values by port are equal when they are equal on each port. -/
theorem PerPort.ext_get {α : Type} {u v : PerPort α} (h : ∀ p, u.get p = v.get p) : u = v := by
  cases u; cases v
  have ha := h .a
  have hb := h .b
  have hc := h .c
  simp only [PerPort.get] at ha hb hc
  rw [ha, hb, hc]

/-! ### Requests and events -/

/-- A request that its port takes leaves the judge's state, with the judge's answer in the port's window. -/
theorem State.request_of_taken {s : State} {p : Port} (judge : State → State × Answer)
    (h : s.takesRequest p = true) :
    s.request p judge = (judge s).1.setWindow p (.answered (answerBytes (judge s).2)) := by
  simp [State.request, h]

/-- A request that its port does not take changes nothing. -/
theorem State.request_of_not_taken {s : State} {p : Port} (judge : State → State × Answer)
    (h : s.takesRequest p = false) : s.request p judge = s := by
  simp [State.request, h]

/-- An event of the part that is not held has its effect where its condition holds. -/
theorem State.event_of_true {s : State} {cond : Bool} (effect : State → State) (hh : s.held = false)
    (hc : cond = true) : s.event cond effect = effect s := by
  simp [State.event, hh, hc]

/-- Where the condition fails, or the part is held, an event changes nothing. -/
theorem State.event_of_false {s : State} {cond : Bool} (effect : State → State)
    (h : s.held = true ∨ cond = false) : s.event cond effect = s := by
  rcases h with h | h <;> simp [State.event, h]

@[simp] theorem State.at_takesRequest (s : State) (t : Time) (p : Port) :
    (s.at t).takesRequest p = s.takesRequest p := rfl

/-! ### Consumer records -/

/-- Reading a record after one record is replaced. -/
theorem State.consumer?_putConsumer (s : State) (n m : Nat) (r : Option Consumer) :
    (s.putConsumer n r).consumer? m = if m = n ∧ n < s.consumers.length then r else s.consumer? m := by
  simp only [State.putConsumer, State.consumer?, List.getElem?_set]
  by_cases h : n = m
  · subst h
    by_cases hl : n < s.consumers.length
    · simp [hl]
    · simp [hl]
  · simp [h, Ne.symm h]

/-- A present record stands below the number of records. -/
theorem State.consumer?_lt {s : State} {n : Nat} {c : Consumer} (h : s.consumer? n = some c) :
    n < s.consumers.length := by
  by_contra hn
  simp [State.consumer?, List.getElem?_eq_none (Nat.le_of_not_lt hn)] at h

/-- Reading a record after one present record is changed. -/
theorem State.consumer?_updateConsumer (s : State) (n m : Nat) (f : Consumer → Consumer) :
    (s.updateConsumer n f).consumer? m = if m = n then (s.consumer? n).map f else s.consumer? m := by
  unfold State.updateConsumer
  cases h : s.consumer? n with
  | none => by_cases hm : m = n <;> simp [hm, h]
  | some c => simp [State.consumer?_putConsumer, State.consumer?_lt h]

/-- Reading a record after every present record is changed. -/
theorem State.consumer?_mapConsumers (s : State) (n : Nat) (f : Consumer → Consumer) :
    (s.mapConsumers f).consumer? n = (s.consumer? n).map f := by
  simp only [State.mapConsumers, State.consumer?, List.getElem?_map]
  cases s.consumers[n]? with
  | none => rfl
  | some r => cases r <;> rfl

/-- Replacing a record keeps the number of records. -/
@[simp] theorem State.putConsumer_length (s : State) (n : Nat) (r : Option Consumer) :
    (s.putConsumer n r).consumers.length = s.consumers.length := by
  simp [State.putConsumer]

@[simp] theorem State.updateConsumer_length (s : State) (n : Nat) (f : Consumer → Consumer) :
    (s.updateConsumer n f).consumers.length = s.consumers.length := by
  unfold State.updateConsumer
  split <;> simp

@[simp] theorem State.mapConsumers_length (s : State) (f : Consumer → Consumer) :
    (s.mapConsumers f).consumers.length = s.consumers.length := by
  simp [State.mapConsumers]

/-- The present records are the numbers that hold a record, with it. -/
theorem State.mem_present {s : State} {n : Nat} {c : Consumer} :
    (n, c) ∈ s.present ↔ s.consumer? n = some c := by
  simp only [State.present, List.mem_filterMap, Prod.exists, Option.map_eq_some_iff, Prod.mk.injEq,
    State.consumer?]
  constructor
  · rintro ⟨r, m, hm, d, rfl, rfl, rfl⟩
    have := List.mk_mem_zipIdx_iff_getElem?.1 hm
    simp [this]
  · intro h
    cases hr : s.consumers[n]? with
    | none => simp [hr] at h
    | some r =>
      simp only [hr, Option.join_some] at h
      exact ⟨r, n, List.mk_mem_zipIdx_iff_getElem?.2 hr, c, h, rfl, rfl⟩

/-- The reading of records depends on the map alone. -/
theorem State.consumer?_congr {s t : State} (h : s.consumers = t.consumers) (n : Nat) :
    s.consumer? n = t.consumer? n := by
  simp [State.consumer?, h]

theorem State.present_congr {s t : State} (h : s.consumers = t.consumers) : s.present = t.present := by
  simp [State.present, h]

/-! ### The change journal -/

@[simp] theorem PortState.raise_window (q : PortState) (f : Flag) : (q.raise f).window = q.window := rfl

@[simp] theorem PortState.raise_mask (q : PortState) (f : Flag) : (q.raise f).mask = q.mask := rfl

/-- The ring after an eviction (R161). -/
theorem State.evict_ring (s : State) : s.evict.journal.ring = s.journal.ring.tail := by
  unfold State.evict
  cases h : s.journal.ring <;> simp [h]

@[simp] theorem State.evict_next (s : State) : s.evict.journal.next = s.journal.next := by
  unfold State.evict
  cases s.journal.ring <;> rfl

/-- A cursor after an eviction: it moves on where it carried the evicted number (R161). -/
theorem State.evict_cursor (s : State) (p : Port) :
    s.evict.journal.cursors.get p =
      match s.journal.ring with
      | e :: _ => if s.journal.cursors.get p = e.seq then e.seq + 1 else s.journal.cursors.get p
      | [] => s.journal.cursors.get p := by
  unfold State.evict
  cases s.journal.ring with
  | nil => rfl
  | cons e rest => cases p <;> simp only [PerPort.get, beq_iff_eq] <;> split <;> simp_all

/-- A port after an eviction: GAP is raised where its cursor was moved (R161). -/
theorem State.evict_port (s : State) (p : Port) :
    s.evict.ports.get p =
      match s.journal.ring with
      | e :: _ => if s.journal.cursors.get p = e.seq then (s.ports.get p).raise .gap else s.ports.get p
      | [] => s.ports.get p := by
  unfold State.evict
  cases s.journal.ring with
  | nil => rfl
  | cons e rest => cases p <;> simp only [PerPort.get, beq_iff_eq] <;> split <;> simp_all

/-- An entry's write, with the eviction before it where the ring is full (R160). -/
theorem State.writeEntry_eq (s : State) (n : Nat) (b : Option Phase) (a : Phase) (k : EntryKind) :
    s.writeEntry n b a k = (if 32 ≤ s.journal.ring.length then s.evict else s).append n b a k := rfl

/-- The ring after one entry is written: at most 31 of the old entries, then the new one (R160). -/
theorem State.writeEntry_ring (s : State) (n : Nat) (b : Option Phase) (a : Phase) (k : EntryKind) :
    (s.writeEntry n b a k).journal.ring =
      (if 32 ≤ s.journal.ring.length then s.journal.ring.tail else s.journal.ring) ++
        [⟨s.journal.next, n, b, a, s.engine.round, k⟩] := by
  rw [State.writeEntry_eq]
  split <;> simp [State.append, State.raiseAll, State.evict_ring]

/-- The next sequence number after one entry is written (R160). -/
@[simp] theorem State.writeEntry_next (s : State) (n : Nat) (b : Option Phase) (a : Phase) (k : EntryKind) :
    (s.writeEntry n b a k).journal.next = s.journal.next + 1 := by
  rw [State.writeEntry_eq]
  split <;> simp [State.append, State.raiseAll]

/-- A cursor after one entry is written: only the eviction moves it (R160, R161). -/
theorem State.writeEntry_cursor (s : State) (n : Nat) (b : Option Phase) (a : Phase) (k : EntryKind) :
    (s.writeEntry n b a k).journal.cursors =
      (if 32 ≤ s.journal.ring.length then s.evict else s).journal.cursors := by
  rw [State.writeEntry_eq]
  rfl

/-- A port after one entry is written: JOURNAL is raised, after what the eviction does (R160, R161). -/
theorem State.writeEntry_port (s : State) (n : Nat) (b : Option Phase) (a : Phase) (k : EntryKind) (p : Port) :
    (s.writeEntry n b a k).ports.get p =
      ((if 32 ≤ s.journal.ring.length then s.evict else s).ports.get p).raise .journal := by
  rw [State.writeEntry_eq]
  simp [State.append, State.raiseAll]

/-- Writing an entry leaves every window and mask as it was. -/
theorem State.writeEntry_window (s : State) (n : Nat) (b : Option Phase) (a : Phase) (k : EntryKind) (p : Port) :
    ((s.writeEntry n b a k).ports.get p).window = (s.ports.get p).window ∧
      ((s.writeEntry n b a k).ports.get p).mask = (s.ports.get p).mask := by
  rw [State.writeEntry_port]
  split
  · rw [State.evict_port]
    cases s.journal.ring with
    | nil => exact ⟨rfl, rfl⟩
    | cons e rest =>
      dsimp only
      split <;> exact ⟨rfl, rfl⟩
  · exact ⟨rfl, rfl⟩

/-! ### The move queue -/

@[simp] theorem State.writeRemoved_nil (s : State) (o : Outcome) : s.writeRemoved [] o = s := rfl

@[simp] theorem State.writeRemoved_cons (s : State) (r : MoveRecord) (rs : List MoveRecord) (o : Outcome) :
    s.writeRemoved (r :: rs) o = (s.writeMoveEnd r o none).writeRemoved rs o := rfl

/-- The records after the head is judged: those behind the heads found off their source (R87). -/
theorem State.settleHead_records (s : State) :
    s.settleHead.queue.records = s.queue.records.dropWhile s.offSource := by
  simp [State.settleHead]

@[simp] theorem State.settleHead_nextId (s : State) : s.settleHead.queue.nextId = s.queue.nextId := by
  simp [State.settleHead]

/-- Which records stand off their source depends on the map alone. -/
theorem State.offSource_congr {s t : State} (h : s.consumers = t.consumers) : s.offSource = t.offSource := by
  funext r
  simp [State.offSource, State.consumer?, h]

/-- The records after a removal: the QUEUED ones that it names go, then the heads found off their source (R99). -/
theorem State.removeQueued_records (s : State) (which : MoveRecord → Bool) (o : Outcome) :
    (s.removeQueued which o).queue.records =
      (s.queue.records.filter fun r => !(r.state == .queued && which r)).dropWhile s.offSource := by
  unfold State.removeQueued
  simp only [State.settleHead_records]
  rw [State.offSource_congr (t := s) (by simp)]
  simp

@[simp] theorem State.removeQueued_nextId (s : State) (which : MoveRecord → Bool) (o : Outcome) :
    (s.removeQueued which o).queue.nextId = s.queue.nextId := by
  simp [State.removeQueued]

end Sys2Proof.Machine
end

