-- ==== Sys2Proof/Laws/Results.lean ====
section
/-! SUPPORT. What the shared operations behind a transaction's result do, each in one equation: writing an entry beside a
change of the map or the queue, the end of a move, the health score, a good STATE reply, and characters on the line. -/

namespace Sys2Proof.Machine

/-- Writing an entry reads neither the map nor the queue, so a change of them passes through it. -/
theorem State.writeEntry_with (s : State) (cs : List (Option Consumer)) (q : MoveQueue) (n : Nat) (b : Option Phase)
    (a : Phase) (k : EntryKind) :
    ({ s with consumers := cs, queue := q } : State).writeEntry n b a k =
      { s.writeEntry n b a k with consumers := cs, queue := q } := by
  simp only [State.writeEntry, State.append, State.raiseAll, State.evict]
  split
  · split <;> rfl
  · rfl

/-- Reading the record that a present consumer's number has just been given. -/
theorem consumer?_of_set {s t : State} {n : Nat} {c : Consumer} (d : Option Consumer) (hc : s.consumer? n = some c)
    (ht : t.consumers = s.consumers.set n d) : t.consumer? n = d := by
  have h := State.consumer?_putConsumer s n n d
  simp only [State.consumer?_lt hc, and_self, if_true] at h
  simpa [State.consumer?, State.putConsumer, ht] using h

/-- Changing the record of a present consumer. -/
theorem State.updateConsumer_of_present {s : State} {n : Nat} {c : Consumer} {f : Consumer → Consumer}
    (hc : s.consumer? n = some c) : s.updateConsumer n f = s.putConsumer n (some (f c)) := by
  simp [State.updateConsumer, hc]

/-- The end of a move whose consumer is present: the record leaves the queue and the map is changed, then MOVE_END, then
the OBSERVED entry of a phase found, then the next head (R98, R99). -/
theorem State.endMove_eq {s : State} {r : MoveRecord} {c : Consumer} (o : Outcome) (v : Option Refused)
    (f : Consumer → Consumer) (found : Option Phase) (hc : s.consumer? r.consumer = some c) :
    s.endMove r o v f found =
      let ended : State :=
        ({ s with
          queue := { s.queue with records := s.queue.records.tail }
          consumers := s.consumers.set r.consumer (some (f c)) } : State).writeEntry r.consumer (some r.source)
          r.target (.moveEnd r.id r.origin o v)
      (match found with
        | some p =>
          (ended.writeEntry r.consumer (some r.source) p (.observed .external)).raiseAll .unplanned
        | none => ended).settleHead := by
  have key : ((s.withRecords s.queue.records.tail).writeMoveEnd r o v).updateConsumer r.consumer f =
      ({ s with
        queue := { s.queue with records := s.queue.records.tail }
        consumers := s.consumers.set r.consumer (some (f c)) } : State).writeEntry r.consumer (some r.source)
        r.target (.moveEnd r.id r.origin o v) := by
    have e1 : (s.withRecords s.queue.records.tail).writeMoveEnd r o v =
        { s.writeEntry r.consumer (some r.source) r.target (.moveEnd r.id r.origin o v) with
          consumers := s.consumers, queue := { s.queue with records := s.queue.records.tail } } :=
      State.writeEntry_with s s.consumers _ _ _ _ _
    have h4 : ((s.withRecords s.queue.records.tail).writeMoveEnd r o v).consumer? r.consumer = some c := by
      rw [← hc]
      exact State.consumer?_congr (by simp [State.writeMoveEnd, State.withRecords]) _
    rw [State.updateConsumer_of_present h4, State.writeEntry_with, e1]
    rfl
  unfold State.endMove
  simp only [key]
  cases found <;> rfl

/-- A result on the health of a present record: its score, and LINK on all ports where the level changes from SUSPECT
into SILENT or back into GOOD (R154, R155). -/
theorem State.scoreHealth_eq {s : State} {n : Nat} {c : Consumer} (good : Bool) (hc : s.consumer? n = some c) :
    s.scoreHealth n good =
      { s with
        consumers := s.consumers.set n (some { c with health := if good then c.health - 1 else min 160 (c.health + 4) })
        ports :=
          if (good = true ∧ c.health = 40) ∨ (good = false ∧ 116 ≤ c.health ∧ c.health ≤ 119) then
            s.ports.map fun q => q.raise .link
          else s.ports } := by
  have key : linkChange (healthLevel c.health) (healthLevel (scoreAfter good c.health)) = true ↔
      (good = true ∧ c.health = 40) ∨ (good = false ∧ 116 ≤ c.health ∧ c.health ≤ 119) := by
    have e : ∀ h, healthLevel h = if h ≤ 39 then .good else if h ≤ 119 then .suspect else .silent := fun _ => rfl
    cases good <;> simp only [linkChange, e, scoreAfter, Bool.or_eq_true, Bool.and_eq_true, beq_iff_eq] <;>
      split_ifs <;> simp_all <;> omega
  simp only [State.scoreHealth, hc, State.putConsumer, key]
  split <;> rfl

/-- A head that is no QUEUED record is not judged. -/
theorem State.settleHead_of_flying {s : State} {r : MoveRecord} {rest : List MoveRecord}
    (hq : s.queue.records = r :: rest) (hr : r.state ≠ .queued) : s.settleHead = s := by
  have h : s.offSource r = false := by simp [State.offSource, hr]
  unfold State.settleHead
  rw [hq, List.dropWhile_cons_of_neg (by simp [h]), List.takeWhile_cons_of_neg (by simp [h]), ← hq]
  rfl

/-- A good STATE reply to a MOVING consumer renews the reading and the status alone (R3, R11). -/
theorem State.applyReply_of_moving {s : State} {n : Nat} {c : Consumer} (r : StateReply) (hc : s.consumer? n = some c)
    (hm : c.phaseState = .moving) :
    s.applyReply n r =
      ({ s with consumers := s.consumers.set n (some (c.takeReading r s.engine.round)) } : State).settleHead := by
  simp only [State.applyReply, hc, hm]
  rfl

/-- The reply that begins at `start` is taken: in AWAITING within the reply limit, in RECEIVING as the reply that began
then (R127, R131). -/
theorem State.replyFrom_eq_some {s : State} {t : Txn} {start : Time} :
    s.replyFrom start = some t ↔
      (∃ a, s.fbc.link = .online (.awaiting t a) ∧ since start a ≤ Config.replyLimit) ∨
        s.fbc.link = .online (.receiving t start) := by
  unfold State.replyFrom
  rcases h : s.fbc.link with _ | _ | (_ | _ | _ | _ | _) <;> simp
  · exact and_comm
  · rename_i x b
    constructor
    · rintro ⟨rfl, rfl⟩; exact ⟨rfl, rfl⟩
    · rintro ⟨rfl, rfl⟩; exact ⟨rfl, rfl⟩

/-- No gap is above the limit, as the statements count it: between two characters that follow one another at most 44 bit
times lie from beginning to beginning, in µs × bit/s (R122, R132). -/
theorem gapFree_iff (rate : BitRate) (ts : List Time) :
    gapFree rate ts = true ↔ ∀ i c d, ts[i]? = some c → ts[i + 1]? = some d →
      since d c * (rate.hundreds * 100) ≤ (Config.charBits + Config.gapBits) * 1000000 := by
  induction ts with
  | nil => simp [gapFree]
  | cons c cs ih =>
    cases cs with
    | nil => simp [gapFree]
    | cons d cs =>
      have scale : since d c * rate.hundreds ≤ (Config.charBits + Config.gapBits) * 10000 ↔
          since d c * (rate.hundreds * 100) ≤ (Config.charBits + Config.gapBits) * 1000000 := by
        rw [← Nat.mul_assoc]; omega
      simp only [gapFree, Bool.and_eq_true, decide_eq_true_iff, ih, scale]
      constructor
      · rintro ⟨h0, h⟩ i a b ha hb
        cases i with
        | zero => simp at ha hb; subst ha hb; exact h0
        | succ i => exact h i a b (by simpa using ha) (by simpa using hb)
      · exact fun h => ⟨h 0 c d rfl rfl, fun i a b ha hb => h (i + 1) a b (by simpa using ha) (by simpa using hb)⟩

/-- The transaction that takes a reply is the one in progress (R127). -/
theorem State.txn?_of_replyFrom {s : State} {start : Time} {t : Txn} (h : s.replyFrom start = some t) :
    s.txn? = some t := by
  unfold State.replyFrom at h
  unfold State.txn?
  split at h <;> simp_all

/-- All that characters on the line can do: nothing, activity on the line while no transaction is in progress, or the end
of the transaction whose reply they settle (R126, R127, R131, R132). -/
theorem State.receive_cases (s : State) (start : Time) (fits : Bool) (cs : List RxChar) :
    s.receive start fits cs = s ∨ (s.txn? = none ∧ s.receive start fits cs = s.hear cs) ∨
    ∃ t res, s.replyFrom start = some t ∧ replyResult t cs = some res ∧
      s.receive start fits cs = (s.setFrx (lineAfter cs)).endTxn t res := by
  unfold State.receive
  cases h : s.replyFrom start with
  | none => cases hx : s.txn? <;> simp
  | some t => cases fits <;> cases hr : replyResult t cs <;> simp [hr]

/-- A byte as it is sent carries no error (R121). -/
theorem charOf_good (b : Byte) : parityError (charOf b) = false ∧ framingError (charOf b) = false := by
  refine ⟨?_, rfl⟩
  unfold parityError charOf
  rw [beq_eq_false_iff_ne]
  rcases Nat.mod_two_eq_zero_or_one (ones b) with h | h <;> simp [h]; omega

/-- Of a character without error the byte alone is tested (R132). -/
theorem charTest_charOf (e : Expected) (i : Nat) (b sum : Byte) :
    charTest e i (charOf b) sum = byteTest e i b sum := by
  simp [charTest, charOf_good]; rfl

/-- The tests of bytes without error, one at a time (R132). -/
theorem judgeFrom_charOf_cons (e : Expected) (b : Byte) (bs : List Byte) (i : Nat) (sum : Byte) (got : List Byte) :
    judgeFrom e ((b :: bs).map charOf) i sum got =
      match byteTest e i b (sum + b) with
      | some k => if bs.isEmpty then .failed k else .overrun
      | none =>
        if i = e.last then if bs.isEmpty then .good (got.reverse ++ [b]) else .overrun
        else judgeFrom e (bs.map charOf) (i + 1) (sum + b) (b :: got) := by
  rw [List.map_cons, judgeFrom, charTest_charOf]
  show (match byteTest e i b (sum + b) with | some k => _ | none => _) = _
  cases byteTest e i b (sum + b) <;> simp [charOf]

/-- The sum of a STATE's constant bytes and its address against that of its check byte (R123). -/
theorem stateFrame_check : ∀ z : Byte, z + 17#8 + 6#8 + (250#8 + (239#8 + -z)) = 0#8 := by decide

/-- The sum of an ANSWER's constant bytes and its address against that of its check byte (R123). -/
theorem answerFrame_check : ∀ z : Byte, z + 18#8 + 2#8 + (254#8 + (238#8 + -z)) = 0#8 := by decide

/-- A STATE of the addressed unit without error is a good reply to a POLL (R132, R133). -/
theorem judge_stateFrame (a : Nat) (st : Byte) (x y : BitVec 16) (tag : Byte) :
    judge ⟨byteOf a, false⟩ ((stateFrame a st x y tag).map charOf) = .good (stateFrame a st x y tag) := by
  simp only [judge, stateFrame, withCheck, List.cons_append, List.nil_append, judgeFrom_charOf_cons]
  simp [byteTest, Expected.kindByte, Expected.lengthByte, Expected.last, byteSum, stateFrame_check]

/-- An ANSWER of the addressed unit without error is a good reply to a MOVE where its code is a verdict; else its verdict
byte has settled the reply before its check byte (R132, R134). -/
theorem judge_answerFrame (a : Nat) (tag v : Byte) :
    judge ⟨byteOf a, true⟩ ((answerFrame a tag v).map charOf) =
      if (verdictOf (v.toNat % 16)).isSome then .good (answerFrame a tag v) else .overrun := by
  simp only [judge, answerFrame, withCheck, List.cons_append, List.nil_append, judgeFrom_charOf_cons]
  cases h : (verdictOf (v.toNat % 16)).isSome <;>
    simp [byteTest, Expected.kindByte, Expected.lengthByte, Expected.last, byteSum, answerFrame_check, h]

/-- The two bytes of a number join to it, high byte first (R123). -/
theorem bytes_joined (v : BitVec 16) : v.extractLsb' 8 8 ++ v.extractLsb' 0 8 = v := by
  ext i hi
  simp only [BitVec.getElem_append, BitVec.getElem_extractLsb']
  split <;> rename_i h
  · simp [BitVec.getLsbD_eq_getElem hi]
  · rw [show 8 + (i - 8) = i by omega, BitVec.getLsbD_eq_getElem hi]

/-- What a STATE hands on (R133). -/
theorem decodeState_stateFrame (a : Nat) (st : Byte) (x y : BitVec 16) (tag : Byte) :
    decodeState (stateFrame a st x y tag) =
      some ⟨phaseOfCode (st.toNat % 4), ⟨clampInt 1000 x.toInt, clampInt 1000 y.toInt⟩, st.getLsbD 4, st.getLsbD 5,
        tag⟩ := by
  simp [stateFrame, withCheck, decodeState, readingOf, bytes_joined]

/-- A STATE is no reply to a MOVE: its kind byte has settled the reply (R132). -/
theorem judge_stateFrame_move (a : Nat) (st : Byte) (x y : BitVec 16) (tag : Byte) :
    judge ⟨byteOf a, true⟩ ((stateFrame a st x y tag).map charOf) = .overrun := by
  simp only [judge, stateFrame, withCheck, List.cons_append, List.nil_append, judgeFrom_charOf_cons]
  simp [byteTest, Expected.kindByte, Expected.last]

/-- A whole frame whose first character the transaction takes as its reply, with all its characters and no gap above the
limit: the transaction ends where the frame settles it with its last byte, and else nothing happens (R132). -/
theorem State.receiveFrame_of_taken {s : State} {starts : List Time} {start : Time} {t : Txn} (frame : Nat → List Byte)
    (hs : starts.head? = some start) (ht : s.replyFrom start = some t)
    (hl : starts.length = (frame t.address).length) (hg : gapFree s.fbc.rate starts = true) :
    s.receiveFrame starts frame =
      match replyResult t ((frame t.address).map charOf) with
      | some res => (s.setFrx .mark).endTxn t res
      | none => s := by
  cases starts with
  | nil => cases hs
  | cons c cs =>
    cases hs
    have hmark : lineAfter ((frame t.address).map charOf) = .mark := by
      unfold lineAfter
      cases h : ((frame t.address).map charOf).getLast? with
      | none => rfl
      | some x =>
        obtain ⟨b, -, rfl⟩ := List.mem_map.1 (List.mem_of_getLast? h)
        rfl
    simp only [State.receiveFrame, State.receive, ht, Option.map_some, Option.getD_some, hl, beq_self_eq_true, hg,
      Bool.and_self, hmark]
    cases replyResult t ((frame t.address).map charOf) <;> rfl

/-- A whole frame is its characters on the line, or nothing where no moment is told (R132). -/
theorem State.receiveFrame_cases (s : State) (starts : List Time) (frame : Nat → List Byte) :
    s.receiveFrame starts frame = s ∨ ∃ start fits cs, s.receiveFrame starts frame = s.receive start fits cs := by
  cases starts with
  | nil => exact .inl rfl
  | cons => exact .inr ⟨_, _, _, rfl⟩

/-- All that a gap can do: nothing, or the end of the transaction, FAILED GAP (R132). -/
theorem State.gapAfter_cases (s : State) (chars : List RxAt) :
    s.gapAfter chars = s ∨
    ∃ start t, s.replyFrom start = some t ∧ s.gapAfter chars = (s.setFrx .mark).endTxn t (.failed .gap) := by
  unfold State.gapAfter
  cases chars with
  | nil => exact .inl rfl
  | cons c cs =>
    dsimp only
    cases h : s.replyFrom c.start with
    | none => exact .inl rfl
    | some t =>
      dsimp only
      split
      · exact .inr ⟨_, t, h, rfl⟩
      · exact .inl rfl

/-- All that the bytes of no request of the catalogue can do: nothing, or an answer that refuses them (R166, R167). -/
theorem execUnknownRequest_cases (p : Port) (code : Byte) (rest : List Byte) (s : State) :
    execUnknownRequest p code rest s = .next s ∨
    ∃ r, execUnknownRequest p code rest s = .next (s.request p fun s => (s, refuse r)) := by
  unfold execUnknownRequest
  split
  · exact .inl rfl
  · split
    · exact .inr ⟨_, rfl⟩
    · split
      · exact .inl rfl
      · exact .inr ⟨_, rfl⟩

end Sys2Proof.Machine
end

