-- ==== Sys2Proof/WellFormed.lean ====
section
/-! DEFINITION. Which commands are well formed: what the frames of the ports and of the field bus can carry.
The widths of the other operands are in their types. -/

namespace Sys2Proof

/-- A request that a port judges is complete: code, count and as many parameter bytes (R166). -/
def completeRequest (bytes : List Byte) : Bool := (splitRequest bytes).isSome

/-- At least one character of a reply, and no more than the ten of a STATE (R123). -/
def charsFit (chars : List RxAt) : Bool := decide (1 ≤ chars.length ∧ chars.length ≤ 10)

/-- At least one echo, and no more than the seven characters of a MOVE (R123). -/
def echoFits (echo : List (Option RxChar)) : Bool := decide (1 ≤ echo.length ∧ echo.length ≤ 7)

/-- A command that the ports and pins can deliver. -/
def wellFormed : Instr → Bool
  | .unknownRequest _ code rest => completeRequest (code :: rest)
  | .gap chars _ => charsFit chars
  | .state _ _ _ _ t => t.starts.length == 10
  | .answer _ _ t => t.starts.length == 6
  | .replyFailed chars _ => charsFit chars
  | .requestSent echo _ => echoFits echo
  | .contention echo _ => echoFits echo
  | _ => true

end Sys2Proof
end

