-- ==== Sys2Proof/Tests/Slice0.lean ====
section
/-! SUPPORT. The model's own tests: the checks of WellFormed, the worked examples of the spec, one step each (each test
names its source), and for every statement with hypotheses a state and operands that meet them. -/

namespace Sys2Proof.Tests
open Sys2Proof Sys2Proof.Machine

/-! ### Small states -/

/-- The state after a command. -/
def after (i : Instr) (s : State) : State :=
  match exec i s with
  | .next t => t
  | _ => s

/-- The answer a port shifts out. -/
def answer (s : State) (p : Port) : List Byte :=
  match s.window p with
  | .answered a => a
  | _ => []

/-- A port's window is open and no request taken. -/
def opened (p : Port) (s : State) : State := s.setWindow p .receiving

/-- C17 at unit address 23, CONFIRMED on L2. -/
def unit : Consumer where
  address := 23
  segment := 0
  allowed := ⟨true, true, true⟩
  cost := 2
  recorded := some .l2
  phaseState := .confirmed
  reading := some ⟨⟨120, -8⟩, 640⟩
  frozen := ⟨0, 0⟩
  lockout := false
  fault := false
  ops := 0
  lastMove := none
  hold := none
  health := 0
  recheck := false
  tried := false

/-- The reset state with a record for C17. -/
def holding (c : Consumer) : State := State.reset.putConsumer 17 (some c)

/-- Move 900 of C17, L2 to L3, from Port C (section 5.11). -/
def move (st : MoveState) : MoveRecord where
  id := 900
  consumer := 17
  source := .l2
  target := .l3
  origin := .portC
  queuedRound := 0
  state := st
  issueAttempts := if st = .queued then 0 else 1
  confirmAttempts := if st = .confirming then 1 else 0
  deadTime := if st = .queued then none else some 4
  wait := none
  waitEnded := false
  attemptDue := false

def auto (s : State) : State := { s with engine := { s.engine with run := .auto } }

def onMains (m : MainsState) (s : State) : State := { s with mtu := { s.mtu with mains := m } }

def onBus (b : BusStage) (s : State) : State := s.putLink (.online b)

/-- C17 MOVING with move 900 at the head. -/
def flying (st : MoveState) : State :=
  ((onMains .valid (holding { unit with phaseState := .moving })).withRecords [move st])

/-- A poll of unit 23 for C17. -/
def poll (cls : TxnClass) : Txn := ⟨cls, 17, 23, if cls = .query then some .b else none, pollFrame 23, true⟩

/-- The MOVE of move 900. -/
def moveTxn : Txn := ⟨.issue, 17, 23, none, moveFrame 23 132 .l3 .l2 4, true⟩

/-- A reply of so many characters, one every `every` us from `start` on: 573 us are eleven bits at 19200 bit/s. -/
def paced (n : Nat) (start : Time) (every : Nat := 573) : FrameTime :=
  ⟨(List.range n).map fun k => start + BitVec.ofNat 32 (every * k), start + BitVec.ofNat 32 (every * (n - 1) + 573)⟩

/-! ### WellFormed -/

/-- R166: a request that lacks its count byte, or a parameter byte, is not complete. -/
theorem test_wellFormed_request :
    wellFormed (.unknownRequest .a 0x47 []) = false ∧ wellFormed (.unknownRequest .a 0x48 [2, 17]) = false := by decide

/-- R123: a reply has ten characters at most; a gap comes after at least one. -/
theorem test_wellFormed_gap : wellFormed (.gap [] 0) = false := by decide

theorem test_wellFormed_frames :
    wellFormed (.state 0 0 0 0 (paced 9 0)) = false ∧ wellFormed (.answer 132 1 (paced 7 0)) = false := by decide

theorem test_wellFormed_reply : wellFormed (.replyFailed (List.replicate 11 ⟨0, charOf 0⟩) 0) = false := by decide

/-- R123: a request frame has seven characters at most. -/
theorem test_wellFormed_sent : wellFormed (.requestSent [] 0) = false := by decide

theorem test_wellFormed_contention : wellFormed (.contention (List.replicate 8 none) 0) = false := by decide

theorem test_wellFormed_accepts :
    wellFormed (.requestSent [some (charOf 151), some (charOf 1), some (charOf 0), some (charOf 104)] 0) = true := by
  decide

/-! ### Requests (section 10.3) -/

/-- Section 10.3: request 48h with two parameter bytes is HOLD n, d; 33h with a two-byte limit, high byte first. -/
theorem test_request_bytes :
    requestOf .c 0 0x48 [17, 5] = some (.hold .c 17 5) ∧
    requestOf .a 0 0x33 [2, 0x03, 0xE8] = some (.installSegment .a 2 1000) ∧
    requestOf .a 0 0x20 [3, 0, 0, 0x61, 0xA8] = some (.writePolicy .a 3 25000) ∧
    requestOf .a 0 0x47 [] = none := by decide

/-- R167, R169: UNKNOWN is code 1, FORMAT code 2. -/
theorem test_unknown_and_format :
    answer (after (.unknownRequest .a 0x47 [0]) (opened .a State.reset)) .a = [1, 1] ∧
    answer (after (.unknownRequest .a 0x48 [1, 17]) (opened .a State.reset)) .a = [1, 2] := by decide

/-- R166: the most significant bit first; the count byte tells how many parameter bytes are taken, what follows them is
ignored, and a request that is not complete has no effect. -/
theorem test_request_stream :
    bytesOfBits [false, true, false, false, true, false, false, false, true] = [0x48] ∧
    splitRequest [0x48, 2, 17, 5, 0xEE] = some (0x48, [17, 5]) ∧
    windowRequest .c 0 [0x48, 2, 17, 5, 0xEE] = some (.hold .c 17 5) ∧
    (after (.unknownRequest .a 0x48 [2, 17]) (opened .a State.reset)).window .a = .receiving := by decide

/-- Section 1.7 step 1: INSTALL CONSUMER by Port C makes a fresh record in UNKNOWN, in the recheck set. -/
theorem test_install_consumer :
    (after (.installConsumer .c 17 23 0 7 2) (opened .c State.reset)).consumer? 17 =
      some { unit with
        recorded := none, phaseState := .unknown, reading := none, recheck := true } := by decide

/-- Section 1.7 step 7: HOLD 17, 5 at round 812 expires in round 817 (00000331h). -/
theorem test_hold :
    answer (after (.hold .c 17 5)
      (opened .c { holding unit with engine := { State.reset.engine with round := 812 } })) .c =
        [6, 0, 2, 0, 0, 0x03, 0x31] := by decide

/-- Section 1.7 step 8: Port A's REQUEST MOVE meets the hold: HELD, code 7. -/
theorem test_request_move_held :
    answer (after (.requestMove .a 17 1) (opened .a (holding { unit with hold := some (.until 817) }))) .a =
      [1, 7] := by decide

/-- Section 5.11 step 1: move 900 (0384h) is queued for Port C. -/
theorem test_request_move_queued :
    answer (after (.requestMove .c 17 3)
      (opened .c { holding unit with queue := ⟨[], 900⟩ })) .c = [3, 0, 0x03, 0x84] := by decide

/-- Section 2.6 step 2: WRITE POLICY 1, 6 stores 4, the highest value of the field's range. -/
theorem test_write_policy :
    answer (after (.writePolicy .a 1 6) (opened .a State.reset)) .a = [2, 0, 4] ∧
    (after (.writePolicy .a 1 6) (opened .a State.reset)).policy.staged.movesPerRound = 4 := by decide

/-- Section 2.6 step 3: in AUTO the COMMIT waits for a latch. -/
theorem test_commit_policy :
    (after (.commitPolicy .a) (opened .a (auto State.reset))).policy.armed = true := by decide

/-- Section 2.7 step 1: FREEZE 0 cancels a QUEUED record and answers the placed round. -/
theorem test_freeze :
    (after (.freeze .b 0) (opened .b ((holding unit).withRecords [move .queued]))).queue.records = [] ∧
    answer (after (.freeze .b 0) (opened .b (holding unit))) .b = [5, 0, 0, 0, 0, 0] := by decide

/-- Section 2.7 step 4: STATE is checked before CONFLICT. -/
theorem test_set_segment_count :
    answer (after (.setSegmentCount .a 2) (opened .a (auto State.reset))) .a = [1, 5] := by decide

/-- Section 9.6's number 65534, in an OBSERVED FIRST entry of C17 (R158, R168): 0 still unread. -/
theorem test_read_journal_wrap :
    (answer (after (.readJournal .a) (opened .a
      (({ State.reset with journal := ⟨[], 65534, ⟨65534, 65534, 65534⟩⟩ }).writeEntry 17 none .l2
        (.observed .first)))) .a) = [13, 0, 0xFF, 0xFE, 1, 17, 0, 2, 0, 0, 0, 0, 0, 0] := by decide

/-! ### Arithmetic (sections 3.2, 3.6, 3.7) -/

/-- Section 3.2's table of √3 terms. -/
theorem test_sqrt3 : [50, -60, 100, 1000].map sqrt3 = [87, -104, 173, 1732] := by decide

def entry (n segment cost : Nat) (p : Phase) (x : Int) : WorkEntry where
  n := n
  segment := segment
  allowed := ⟨true, true, true⟩
  cost := cost
  recorded := some p
  phaseState := .confirmed
  frozen := ⟨x, 0⟩
  readingRound := some 2000
  lockout := false
  fault := false
  held := false
  ops := 0
  lastMove := none
  health := 0

/-- The working set of section 3.6. -/
def fiveConsumers : WorkingSet where
  round := 2000
  entries :=
    [entry 0 0 0 .l1 200, entry 1 1 3 .l1 150, entry 2 1 0 .l2 50, entry 3 2 0 .l1 100, entry 4 2 0 .l3 (-60)]
  count := 3
  limits := [1000, 1000, 1000]
  frozenSegs := [false, false, false]
  head := none
  policy := { Policy.default with movesPerRound := 2, weights := [2, 1, 1, 1, 1, 1, 1, 1] }
  run := .auto
  mains := .valid
  present := ⟨true, true, true⟩
  occupancy := 0
  replaced := []

/-- Section 3.6: the neutral sums, the score, the S0 estimate, the selected list and the 18 candidates. -/
theorem test_five_consumers_score :
    fiveConsumers.neutrals = [⟨910, -191⟩, ⟨510, -191⟩, ⟨260, -104⟩] ∧ fiveConsumers.score = 2104159 ∧
    neutralEstimate ⟨910, -191⟩ = 464 := by decide

theorem test_five_consumers_selection :
    fiveConsumers.selection = ([⟨1, .l1, .l3, 1584660, 1554660⟩, ⟨3, .l1, .l2, 299922, 299922⟩], 18) := by
  decide +kernel

/-- Section 3.7: the exporter's move is refused by the limit rule; 8 candidates are examined. -/
theorem test_exporter_selection :
    ({ fiveConsumers with
      entries := [entry 20 0 0 .l1 440, entry 21 0 0 .l2 340, entry 22 0 0 .l3 380, entry 23 0 0 .l3 (-60)]
      count := 1, limits := [35]
      policy := { Policy.default with movesPerRound := 1 } } : WorkingSet).selection = ([], 8) := by
  decide +kernel

/-! ### Rounds (sections 4.9, 4.10) -/

/-- Section 4.10: the latch of round 3001 ends record 77 EXPIRED, keeps record 78, and clears the hold of C40. -/
theorem test_latch_expires :
    let s : State :=
      { holding { unit with hold := some (.until 3001), ops := 6 } with
        engine := ⟨.auto, 0, true, 3000, 2879, none, none⟩
        queue := ⟨[{ move .queued with id := 77, queuedRound := 2996 },
          { move .queued with id := 78, consumer := 18, queuedRound := 2998 }], 79⟩ }
    let t := after .expired s
    t.engine.round = 3001 ∧ t.engine.window = 0 ∧ t.queue.records.map (·.id) = [78] ∧
    (t.consumer? 17).map (·.hold) = some none ∧ (t.consumer? 17).map (·.ops) = some 0 := by decide

/-- Section 4.9 step 5: the post withdraws the move of a consumer that a hold has met. -/
theorem test_post_withdraws_held :
    ((auto (holding { unit with hold := some .indefinite })).post 2000 [⟨17, .l2, .l3, 1, 1⟩]).2 = 0 ∧
    ((auto (holding unit)).post 2000 [⟨17, .l2, .l3, 1, 1⟩]).2 = 1 := by decide

/-! ### Mains (chapter 6) -/

/-- Section 6.3's worked verdicts, at 50 Hz, band 400, tol 700. -/
theorem test_cycle_verdicts :
    cycleVerdict MainsSettings.default 20040 (some 6690) (some 13370) = .good ∧
    cycleVerdict MainsSettings.default 20040 (some 13360) (some 6680) = .bad .reversed ∧
    cycleVerdict MainsSettings.default 20040 (some 7500) (some 13370) = .bad .spacing ∧
    cycleVerdict MainsSettings.default 20450 (some 6820) (some 13630) = .bad .period ∧
    cycleVerdict MainsSettings.default 19980 (some 6650) none = .bad .spacing := by decide

/-- A part whose ZC2 pin is accepted LOW and goes high at 5006720. -/
def risingL2 : State :=
  after (.zcPinChange .l2 .high 5006720)
    { State.reset with mtu := { State.reset.mtu with pins := State.reset.mtu.pins.set .l2 ⟨.low, 5006700, some .low, none⟩ } }

/-- Section 6.1's example: the edge is accepted at 5007720 with the stamp 5006720, and makes L2 PRESENT. -/
theorem test_qualify :
    (after (.qualifyTimeExpiry .l2 5007719) risingL2).mtu.stamps.l2 = none ∧
    (after (.qualifyTimeExpiry .l2 5007720) risingL2).mtu.stamps.l2 = some 5006720 ∧
    (after (.qualifyTimeExpiry .l2 5007720) risingL2).mtu.mains = .settling := by decide

/-- Section 6.1's example: a pulse of 400 us leaves no candidate. -/
theorem test_pulse_dropped : (after (.zcPinChange .l2 .low 5007120) risingL2).mtu.pins.l2.candidate = none := by decide

/-- R104: under a shorter qualify time a level that has held long enough is accepted at once, its stamp its candidate. -/
theorem test_set_mains_accepts :
    let low : Qualifier := ⟨.low, 0, some .low, none⟩
    let s : State := { risingL2 with mtu := { risingL2.mtu with pins := ⟨low, risingL2.mtu.pins.l2, low⟩ } }
    let t := after (.setMains .a 50 400 700 50 5 5007300) (opened .a s)
    t.mtu.stamps.l2 = some 5006720 ∧ t.mtu.mains = .settling ∧ answer t .a = [8, 0, 50, 1, 0x90, 2, 0xBC, 50, 5] := by
  decide

/-- R106: at 50 Hz a phase is lost 60,000 us after its stamp, not before. -/
theorem test_loss :
    let s : State := { State.reset with mtu := { State.reset.mtu with mains := .settling, stamps := ⟨none, some 0, none⟩ } }
    (after (.lossExpiry .l2 59999) s).mtu.mains = .settling ∧ (after (.lossExpiry .l2 60000) s).mtu.mains = .absent := by
  decide

/-! ### The field bus (chapters 7 and 8) -/

/-- Section 7.2's example: the bytes of one exchange with unit 23. -/
theorem test_frames :
    pollFrame 23 = [151, 0x01, 0, 104] ∧
    stateFrame 23 0x02 120 (-8) 132 = [23, 0x11, 6, 0x02, 0x00, 0x78, 0xFF, 0xF8, 0x84, 221] ∧
    moveFrame 23 132 .l3 .l2 4 = [151, 0x02, 3, 132, 0x23, 4, 185] ∧
    answerFrame 23 132 0x01 = [23, 0x12, 2, 132, 0x01, 80] := by decide

/-- R121: eleven bits on the line: the start bit at space, the data from the least significant bit on, odd parity, the stop
bit at mark; and FTX rests at mark for one bit time after the grant. -/
theorem test_characters :
    lineBits (charOf 0x97) = [false, true, true, true, false, true, false, false, true, false, true] ∧
    rxCharOf (lineBits (charOf 0x97)) = some (charOf 0x97) ∧
    (onBus (.sending (poll .sweep)) State.reset).ftx 0 = true ∧ (onBus (.sending (poll .sweep)) State.reset).ftx 1 = false := by
  decide

/-- R132: the tests of a reply, the parity first, then the bytes in their places. -/
theorem test_reply_tests :
    judge ⟨23, true⟩ [⟨23, true, true⟩] = .incomplete ∧
    judge ⟨23, true⟩ [⟨23, false, true⟩] = .failed .parity ∧
    judge ⟨23, true⟩ [charOf 24] = .failed .address ∧
    judge ⟨23, true⟩ ([23, 0x12, 2, 132, 0x01, 81].map charOf) = .failed .check := by decide

/-- Section 1.7 steps 2 and 4: the first observation is FIRST, a change of phase is EXTERNAL and raises UNPLANNED. -/
theorem test_state_first :
    let s := onBus (.receiving (poll .recheck) 0)
      (holding { unit with recorded := none, phaseState := .unknown, recheck := true })
    let t := after (.state 0x02 120 (-8) 0 (paced 10 0)) s
    (t.consumer? 17).map (fun c => (c.recorded, c.phaseState, c.recheck)) = some (some .l2, .confirmed, false) ∧
    t.journal.ring.map (·.kind) = [.observed .first] := by decide

theorem test_state_external :
    let t := after (.state 0x03 115 (-5) 0 (paced 10 0)) (onBus (.receiving (poll .sweep) 0) (holding unit))
    t.journal.ring.map (·.kind) = [.observed .external] ∧ t.flagOn .b .unplanned = true := by decide

/-- Section 5.11 step 3: BUSY fails the attempt and the repeat waits two cycle ticks; step 8: ACCEPT, and eight ticks. -/
theorem test_answer_busy :
    let t := after (.answer 132 0x05 (paced 6 0)) (onBus (.receiving moveTxn 0) (flying .issuing))
    t.queue.records.map (fun r => (r.state, r.wait)) = [(.issuing, some 2)] := by decide

theorem test_answer_accept :
    let t := after (.answer 132 0x01 (paced 6 0)) (onBus (.receiving moveTxn 0) (flying .issuing))
    t.queue.records.map (fun r => (r.state, r.wait)) = [(.switching, some 8)] := by decide

/-- R132: a verdict byte without a verdict fails the attempt in its own event, the fifth character's. -/
theorem test_answer_without_verdict :
    let s := onBus (.receiving moveTxn 0) (flying .issuing)
    let chars := ([23, 0x12, 2, 132, 0x06] : List Byte).map charOf
    let t := after (.replyFailed (((paced 5 0).starts.zip chars).map fun x => ⟨x.1, x.2⟩) 2865) s
    t.queue.records.map (fun r => (r.state, r.wait)) = [(.issuing, some 2)] ∧
    t.fbc.link = .online (.quiet 2865 2865) := by decide

/-- Section 5.11 steps 10 to 12: OPEN waits five ticks; L3 is the target, DONE. -/
theorem test_confirm_open :
    let t := after (.state 0x00 0 0 132 (paced 10 0)) (onBus (.receiving (poll .confirm) 0) (flying .confirming))
    t.queue.records.map (·.wait) = [some 5] := by decide

theorem test_confirm_done :
    let t := after (.state 0x03 64 (-3) 132 (paced 10 0)) (onBus (.receiving (poll .confirm) 0) (flying .confirming))
    t.queue.records = [] ∧ t.journal.ring.map (·.kind) = [.moveEnd 900 .portC .done none] ∧
    (t.consumer? 17).map (fun c => (c.recorded, c.ops, c.lastMove)) = some (some .l3, 1, some 0) := by decide

/-- R122, R132: at 19200 bit/s 33 bit times after the stop bit of a character end 2292 us after its start bit began. -/
theorem test_gap :
    let s := onBus (.receiving (poll .sweep) 0) (holding unit)
    (after (.gap [⟨0, charOf 23⟩] 2291) s).fbc.link = s.fbc.link ∧
    (after (.gap [⟨0, charOf 23⟩] 2292) s).fbc.link = .online (.quiet 2292 2292) := by decide

/-- R132: at 19200 bit/s the characters of a reply begin at most 2291 us after one another. -/
theorem test_gap_in_a_frame :
    let s := onBus (.receiving (poll .sweep) 0) (holding unit)
    (after (.state 0x02 120 (-8) 0 (paced 10 0 2291)) s).fbc.link = .online (.quiet 21192 21192) ∧
    (after (.state 0x02 120 (-8) 0 (paced 10 0 2292)) s).fbc.link = s.fbc.link := by decide

/-- R131: a reply that begins within 20,000 us of the request is taken, one that begins after it is none. -/
theorem test_reply_limit :
    let s := onBus (.awaiting (poll .sweep) 0) (holding unit)
    (after (.state 0x02 120 (-8) 0 (paced 10 19990)) s).fbc.link = .online (.quiet 25720 25720) ∧
    (after (.state 0x02 120 (-8) 0 (paced 10 20001)) s).fbc.link = s.fbc.link := by decide

/-- R130: the line held at space from the beginning of QUIET on reaches the quiet limit, 264 bit times at 19200 bit/s. -/
theorem test_quiet_limit_at_space :
    let s := after (.frxAtSpace ⟨true, 100⟩) (onBus (.quiet 0 0) State.reset)
    (after (.quietTimeEnd 2400) s).fbc.link = .online (.quiet 0 100) ∧
    (after (.quietLimit 13750) s).fbc.link = .joining 13750 := by decide

/-- R129, R138: the cause that goes with ABANDONED does not change what the Arbiter makes of it. -/
theorem test_abandoned_causes :
    (TxnResult.abandoned .contended ≠ .abandoned .settings) ∧
    ((holding unit).result (poll .sweep) (.abandoned .contended)).arb.pointer = 17 ∧
    ((holding unit).result (poll .sweep) (.abandoned .settings)).arb.pointer = 17 := by decide

/-- Section 5.12 step 3: the mains leaves VALID while the repeat waits: SWITCHING, nine ticks for a dead time of 6. -/
theorem test_mains_lost_between_attempts :
    let s := (flying .issuing).withRecords [{ move .issuing with deadTime := some 6, wait := some 2 }]
    (s.setMainsState .disturbed 0).queue.records.map (fun r => (r.state, r.wait)) = [(.switching, some 9)] := by decide

/-- Section 8.9: from 36 a failed poll gives 40 and no flag; from 116 it gives 120 and LINK; at 160 the score is held. -/
theorem test_health :
    let s (h : Nat) := (holding { unit with health := h }).scoreHealth 17 false
    ((s 36).consumer? 17).map (·.health) = some 40 ∧ (s 36).flagOn .a .link = false ∧
    ((s 116).consumer? 17).map (·.health) = some 120 ∧ (s 116).flagOn .a .link = true ∧
    ((s 160).consumer? 17).map (·.health) = some 160 := by decide

/-- Section 8.8: with six grants counted a pending SWEEP goes before a waiting query; with fewer the query goes. -/
theorem test_starvation_guard :
    let s (n : Nat) : State := onBus .free
      { holding unit with arb := ⟨n, 0, 0, ⟨⟨.waiting 17, none⟩, ⟨.idle, none⟩, ⟨.idle, none⟩⟩, [.a]⟩ }
    (s 6).choice = some .sweep ∧ (s 5).choice = some .query := by decide

/-! ### States and operands that meet the statements' hypotheses

One theorem for each statement with hypotheses; its clauses follow the statement's clauses, at a boundary of their range
where they have one. -/

/-- RESETN has been low for 10 us. -/
def heldPart : State := { State.reset with held := true }

/-- The reset state with Port A's, B's or C's window open. -/
def ready (p : Port) : State := opened p State.reset

theorem witness_ResetHoldEndsInAWarmReset : State.reset.held = false ∧ heldPart.held = true := by decide

theorem witness_HeldPartTakesNothing : heldPart.held = true := by decide

theorem witness_SelectWindowsOpenAndClose :
    State.reset.window .a = .closed ∧ (ready .a).window .a ≠ .closed ∧
    (Port.b ≠ .a ∧ State.reset.restartDue = false ∧ heldPart.held = true) ∧ (ready .a).takesRequest .a = true ∧
    (({ ready .a with restartDue := true } : State).restartDue = true ∧ (ready .a).held = false) := by decide

theorem witness_RequestsOutsideTheRulesHaveNoEffect :
    ((ready .a).takesRequest .a = true ∧ [17#8].length = (1#8).toNat ∧ catalogueCount 0x7E = none) ∧
    (catalogueCount 0x48 = some 2 ∧ (1#8).toNat ≠ 2) ∧ catalogueCount 0x11 = some (1#8).toNat ∧
    [0x47#8].length < 2 ∧ [17#8].length < (2#8).toNat ∧
    requestPort (.hold .c 95 255) = some .c ∧ State.reset.takesRequest .c = false ∧
    heldPart.takesRequest .a = false := by decide

theorem witness_RequestsWithoutTheirRightAreRefused :
    requestPort (.requestMove .b 96 0) = some .b ∧ mayAsk .b (.requestMove .b 96 0) = false ∧
    (ready .b).takesRequest .b = true := by decide

theorem witness_RequestCodingRoundTrips :
    requestBytes (.hold .c 95 255) = some (0x48, [95, 255]) ∧ requestOf .c 0 0x48 [95, 255] = some (.hold .c 95 255) ∧
    catalogueCount 0x48 = some [95#8, 255#8].length ∧
    (requestStream (.hold .c 95 255) = some [0x48, 2, 95, 255] ∧ requestPort (.hold .c 95 255) = some .c ∧
      3 < [0x48#8, 2, 95, 255].length) := by decide

theorem witness_ReadsAnswerTheirOwnersFields : (ready .b).takesRequest .b = true := by decide

theorem witness_ReadConsumerAnswersTheRecord :
    (ready .b).takesRequest .b = true ∧ 96 ≤ (96#8).toNat ∧ ((95#8).toNat < 96 ∧ (ready .b).consumer? 95 = none) ∧
    ((17#8).toNat < 96 ∧ (opened .b (holding unit)).consumer? 17 = some unit) := by decide

theorem witness_ReadSegmentAnswersTheSegment :
    (ready .b).takesRequest .b = true ∧ 8 ≤ (8#8).toNat ∧
    ((7#8).toNat < 8 ∧ (ready .b).segs.segments[7]? = some Segment.reset) ∧
    ((0#8).toNat < 8 ∧ (ready .b).segs.segments[0]? = some Segment.reset) := by decide

/-- One entry stands unread. -/
def oneEntry : State := opened .a ((holding unit).writeEntry 17 none .l2 (.observed .first))

theorem witness_ReadJournalAnswersTheEntryAtTheCursor :
    ((ready .a).takesRequest .a = true ∧ (ready .a).journal.cursors.get .a = (ready .a).journal.next) ∧
    (oneEntry.takesRequest .a = true ∧ oneEntry.journal.cursors.get .a ≠ oneEntry.journal.next ∧
      oneEntry.journal.wf) := by decide

theorem witness_ClearFlagsClearsTheNamedFlags :
    (ready .b).takesRequest .b = true ∧ 512 ≤ (512#16).toNat ∧ (511#16).toNat < 512 ∧
    (511#16).getLsbD Flag.restarted.bit = true := by decide

theorem witness_SetMaskDrivesTheAttentionLine :
    (ready .b).takesRequest .b = true ∧ 512 ≤ (512#16).toNat ∧ (511#16).toNat < 512 ∧ State.reset.held = false := by
  decide

theorem witness_WritePolicyStoresTheClampedValue :
    ((ready .b).takesRequest .b = true ∧ Port.b ≠ .a) ∧ ((ready .a).takesRequest .a = true ∧ 20 ≤ (20#8).toNat) ∧
    ((19#8).toNat = 19 ∧ (ready .a).policy.staged.weights.length = 8) := by decide

/-- A round timer expiry waits and the Engine is not busy. -/
def latchDue : State := { holding unit with engine := ⟨.auto, 0, true, 2000, 0, none, none⟩ }

/-- The Engine is busy with a round latched in OFF. -/
def busy : State := { State.reset with engine := ⟨.auto, 0, false, 2000, 0, some { fiveConsumers with run := .off }, none⟩ }

/-- Another dwell is staged, and Port A's window is open. -/
def staging (dwell : Nat) : State :=
  { ready .a with policy := ⟨{ Policy.default with dwell := dwell }, Policy.default, false⟩ }

theorem witness_CommitPolicyMakesThePendingSetActive :
    ((ready .b).takesRequest .b = true ∧ Port.b ≠ .a) ∧
    ((ready .a).takesRequest .a = true ∧ (ready .a).engine.run = .off) ∧
    ((auto (ready .a)).takesRequest .a = true ∧ (auto (ready .a)).engine.run = .auto) ∧
    (latchDue.held = false ∧ latchDue.engine.expiryDue = true ∧ latchDue.engine.work = none) ∧
    (after (.commitPolicy .a) (staging 12)).policy.active ≠ (staging 12).policy.active := by decide

theorem witness_DiscardPolicyCopiesTheActiveSet :
    let s : State := opened .a { latchDue with policy := { latchDue.policy with armed := true } }
    ((ready .b).takesRequest .b = true ∧ Port.b ≠ .a) ∧
    (s.takesRequest .a = true ∧ s.engine.expiryDue = true ∧ s.engine.work = none ∧ s.policy.armed = true) := by decide

theorem witness_StartPutsThePartIntoAuto :
    ((ready .c).takesRequest .c = true ∧ Port.c ≠ .a) ∧ (ready .a).takesRequest .a = true ∧
    (latchDue.held = false ∧ latchDue.engine.expiryDue = true ∧ latchDue.engine.work = none) ∧
    (busy.held = false ∧ busy.engine.work.map (·.run) = some .off) := by decide

theorem witness_StopCancelsTheEnginesMoves :
    ((ready .c).takesRequest .c = true ∧ Port.c ≠ .b ∧ (ready .c).engine.run = .off) ∧
    ((auto (ready .c)).takesRequest .c = true ∧ (auto (ready .c)).engine.run = .auto) := by decide

theorem witness_SegmentsAreInstalledInRange :
    let frozen : State := (ready .a).putSegment 7 { Segment.reset with frozenAt := some 0 }
    ((ready .a).takesRequest .a = true ∧ Port.a ≠ .b) ∧ ((0#8).toNat < 1 ∧ 8 < (9#8).toNat) ∧
    (1 ≤ (8#8).toNat ∧ (8#8).toNat ≤ 8 ∧ (auto (ready .a)).engine.run = .auto) ∧
    (frozen.takesRequest .a = true ∧ frozen.engine.run = .off ∧
      ∃ r ∈ frozen.segs.segments.drop (7#8).toNat, r.frozenAt ≠ none) ∧
    (¬((∃ r ∈ (ready .a).consumers.filterMap id, (1#8).toNat ≤ r.segment) ∨
      ∃ r ∈ (ready .a).segs.segments.drop (1#8).toNat, r.frozenAt ≠ none)) ∧
    8 ≤ (8#8).toNat ∧ ((7#8).toNat < 8 ∧ (ready .a).segs.segments[7]? = some Segment.reset) := by decide

theorem witness_FreezeCancelsTheMovesBeyondIt :
    (ready .b).takesRequest .b = true ∧ (ready .b).segs.count ≤ (1#8).toNat ∧ (0#8).toNat < (ready .b).segs.count ∧
    (ready .b).segs.segments[0]? = some Segment.reset := by decide

theorem witness_ThawRemovesOnlyItsOwnFreeze :
    ((ready .a).takesRequest .a = true ∧ Port.a ≠ .b) ∧
    ((ready .b).takesRequest .b = true ∧ (ready .b).segs.count ≤ (1#8).toNat) ∧
    ((0#8).toNat < (ready .b).segs.count ∧ (ready .b).segs.segments[0]? = some Segment.reset ∧
      Segment.reset.frozenAt = none) := by decide

theorem witness_HeadReportIsClampedAndStamped : (ready .b).takesRequest .b = true := by decide

theorem witness_InstallConsumerMakesAFreshRecord :
    let ranged (s : State) (n address segment allowed cost : Byte) : Prop :=
      n.toNat < 96 ∧ 1 ≤ address.toNat ∧ address.toNat ≤ 126 ∧ segment.toNat < s.segs.count ∧ 1 ≤ allowed.toNat ∧
        allowed.toNat ≤ 7 ∧ cost.toNat ≤ 15
    let queued : State := opened .c ((holding unit).withRecords [move .queued])
    let present : State := opened .c (holding unit)
    ((ready .c).takesRequest .c = true ∧ Port.c ≠ .b ∧ ¬ranged (ready .c) 96 126 0 7 15) ∧
    (ranged (auto (ready .c)) 95 126 0 7 15 ∧ (auto (ready .c)).engine.run = .auto) ∧
    (queued.takesRequest .c = true ∧ ranged queued 17 1 0 1 0 ∧ queued.engine.run = .off ∧
      ∃ r ∈ queued.queue.records, r.consumer = 17) ∧
    (present.takesRequest .c = true ∧ ranged present 16 23 0 7 15 ∧ present.engine.run = .off ∧
      (¬∃ r ∈ present.queue.records, r.consumer = 16) ∧
      (present.consumer? 17 = some unit ∧ 17 ≠ (16#8).toNat ∧ unit.address = (23#8).toNat)) := by decide

theorem witness_InstallConsumerMakesAFreshRecord_whole :
    let s := ready .c
    s.takesRequest .c = true ∧ s.engine.run = .off ∧ (¬∃ r ∈ s.queue.records, r.consumer = (95#8).toNat) ∧
    ¬∃ m c, s.consumer? m = some c ∧ m ≠ (95#8).toNat ∧ c.address = (126#8).toNat := by
  refine ⟨by decide, by decide, by decide, ?_⟩
  rintro ⟨m, c, h, -⟩
  simp [ready, opened, State.setWindow, State.consumer?, State.reset, List.getElem?_replicate] at h
  split at h <;> simp at h

theorem witness_RemoveConsumerMakesTheRecordAbsent :
    let present : State := opened .c (holding unit)
    let queued : State := opened .c ((holding unit).withRecords [move .queued])
    ((ready .c).takesRequest .c = true ∧ Port.c ≠ .b ∧ 96 ≤ (96#8).toNat) ∧
    ((95#8).toNat < 96 ∧ (auto (ready .c)).engine.run = .auto) ∧
    ((ready .c).engine.run = .off ∧ (ready .c).consumer? 95 = none) ∧
    (queued.engine.run = .off ∧ queued.consumer? 17 = some unit ∧ ∃ r ∈ queued.queue.records, r.consumer = 17) ∧
    (present.takesRequest .c = true ∧ present.engine.run = .off ∧ present.consumer? 17 = some unit ∧
      ¬∃ r ∈ present.queue.records, r.consumer = 17) := by decide

theorem witness_HoldIsPlacedAndCancelsMoves :
    (ready .c).takesRequest .c = true ∧ 96 ≤ (96#8).toNat ∧ ((95#8).toNat < 96 ∧ (ready .c).consumer? 95 = none) ∧
    ((opened .c (holding unit)).takesRequest .c = true ∧ (opened .c (holding unit)).consumer? 17 = some unit) := by
  decide

theorem witness_ReleaseRemovesTheHold :
    ((ready .a).takesRequest .a = true ∧ Port.a ≠ .c) ∧ ((ready .c).takesRequest .c = true ∧ 96 ≤ (96#8).toNat) ∧
    ((95#8).toNat < 96 ∧ (ready .c).consumer? 95 = none) ∧
    ((opened .c (holding unit)).consumer? 17 = some unit ∧ unit.hold = none) := by decide

theorem witness_RequestMoveQueuesAManualMove :
    let asked (p : Port) (c : Consumer) (records : List MoveRecord) : State :=
      opened p ((holding c).withRecords records)
    let unfit (c : Consumer) (q : Phase) : Prop :=
      c.phaseState ≠ .confirmed ∨ c.allowed.get q = false ∨ c.recorded = some q ∨ 120 ≤ c.health
    ((asked .a unit []).takesRequest .a = true ∧ Port.a ≠ .b ∧ 96 ≤ (96#8).toNat ∧ (0#8).toNat = 0 ∧
      4 ≤ (4#8).toNat) ∧
    ((95#8).toNat < 96 ∧ (3#8).toNat = phaseCode .l3 ∧ (asked .a unit []).consumer? 95 = none) ∧
    ((asked .a unit []).consumer? 17 = some unit ∧ unfit unit .l2 ∧ ¬unfit { unit with health := 119 } .l3) ∧
    (({ unit with hold := some .indefinite } : Consumer).hold ≠ none) ∧
    ((asked .a unit [move .queued]).queue.records.length < 16 ∧
      ∃ r ∈ (asked .a unit [move .queued]).queue.records, r.consumer = 17) ∧
    (16 ≤ (asked .a unit (List.replicate 16 { move .queued with consumer := 18 })).queue.records.length ∧
      ¬∃ r ∈ (asked .a unit (List.replicate 16 { move .queued with consumer := 18 })).queue.records,
        r.consumer = 17) ∧
    ((asked .c unit []).takesRequest .c = true ∧ unit.recorded = some .l2 ∧
      (asked .c unit []).isFrozen unit.segment = false ∧ (asked .c unit []).queue.records.length < 16) := by decide

theorem witness_RequestMoveQueuesAManualMove_frozen :
    let s : State := (holding unit).putSegment 0 { Segment.reset with frozenAt := some 0 }
    ∃ j r, j ≤ unit.segment ∧ s.segs.segments[j]? = some r ∧ r.frozenAt ≠ none :=
  ⟨0, { Segment.reset with frozenAt := some 0 }, by decide⟩

theorem witness_QueryUnitWaitsInArrivalOrder :
    let s := opened .a (holding unit)
    let waiting : State := { s with arb := ⟨0, 0, 0, ⟨⟨.waiting 17, none⟩, ⟨.idle, none⟩, ⟨.idle, none⟩⟩, [.a]⟩ }
    s.takesRequest .a = true ∧ 96 ≤ (96#8).toNat ∧ ((95#8).toNat < 96 ∧ s.consumer? 95 = none) ∧
    (s.consumer? 17 = some unit ∧ (s.arb.slots.get .a).stage = .idle) ∧
    (waiting.takesRequest .a = true ∧ waiting.consumer? 17 = some unit ∧ (waiting.arb.slots.get .a).stage ≠ .idle) := by
  decide

/-- A pin that stands LOW and is accepted LOW. -/
def lowPin : Qualifier := ⟨.low, 0, some .low, none⟩

/-- Port A's window is open in a part whose three pins and stamps are these. -/
def mainsReady (pins : PerPhase Qualifier) (stamps : PerPhase (Option Time)) : State :=
  { ready .a with mtu := { (ready .a).mtu with pins := pins, stamps := stamps } }

theorem witness_SetMainsStoresTheSettings :
    let ranged (m : MainsSettings) : Prop :=
      (m.frequency = 50 ∨ m.frequency = 60) ∧ (100 ≤ m.band ∧ m.band ≤ 2000) ∧ (200 ≤ m.tol ∧ m.tol ≤ 2000) ∧
        8 ≤ m.settle ∧ (1 ≤ m.qualify ∧ m.qualify ≤ 31)
    let s := ready .a
    (s.takesRequest .a = true ∧ Port.a ≠ .b ∧ ¬ranged ⟨50, 99, 200, 8, 1⟩ ∧ s.engine.run = .off) ∧
    (ranged ⟨60, 2000, 2000, 255, 31⟩ ∧ (auto s).engine.run = .auto) ∧
    (ranged s.mtu.settings ∧ (⟨50, 400, 700, 50, 10⟩ : MainsSettings) = s.mtu.settings) ∧
    (ranged ⟨50, 100, 200, 8, 10⟩ ∧ 50 = s.mtu.settings.frequency ∧ 10 = s.mtu.settings.qualify) := by decide

/-- In turn: the candidate of L2 alone has held 500 us, the new qualify time; L2 alone is PRESENT and three periods of
60 Hz old; no phase is PRESENT and one period of 60 Hz has passed. -/
theorem witness_SetMainsStoresTheSettings_due :
    let rising := mainsReady ⟨lowPin, ⟨.high, 0, some .low, some 0⟩, lowPin⟩ ⟨none, none, none⟩
    let old := mainsReady ⟨lowPin, lowPin, lowPin⟩ ⟨none, some 0, none⟩
    let silent := mainsReady ⟨lowPin, lowPin, lowPin⟩ ⟨none, none, none⟩
    (rising.takesRequest .a = true ∧ 5 ≠ rising.mtu.settings.qualify ∧ 50 = rising.mtu.settings.frequency ∧
      (rising.mtu.pins.get .l2).accepted = some .low ∧ (rising.mtu.pins.get .l2).candidate = some 0 ∧
      5 * 100 ≤ ((500 : Time) - 0).toNat ∧ (rising.mtu.pins.get .l1).candidate = none ∧
      (rising.mtu.pins.get .l3).candidate = none) ∧
    (old.takesRequest .a = true ∧ 60 ≠ old.mtu.settings.frequency ∧ old.mtu.stamps.get .l2 = some 0 ∧
      3 * 16667 ≤ ((50001 : Time) - 0).toNat ∧ old.mtu.stamps.get .l1 = none ∧ old.mtu.stamps.get .l3 = none) ∧
    (silent.takesRequest .a = true ∧ (∀ ph ∈ phases, silent.mtu.stamps.get ph = none) ∧
      16667 ≤ ((16667 : Time) - silent.mtu.lastInternal).toNat) := by decide

theorem witness_SetBusStoresTheSettings :
    let s := ready .a
    let inFlight := opened .a (flying .issuing)
    (s.takesRequest .a = true ∧ Port.a ≠ .b ∧ 2 ≤ (2#8).toNat) ∧
    ((1#8).toNat < 2 ∧ BitRate.r38400.hundreds = (384#16).toNat ∧ (auto s).engine.run = .auto) ∧
    (inFlight.takesRequest .a = true ∧ inFlight.engine.run = .off ∧ ∃ r ∈ inFlight.queue.records, r.state ≠ .queued) ∧
    (s.engine.run = .off ∧ ¬∃ r ∈ s.queue.records, r.state ≠ .queued) := by decide

/-- Each class but MOVE and CONFIRM is cut off by the bus being taken down; with every record QUEUED, those cut nothing. -/
theorem witness_SetBusStoresTheSettings_cut :
    let s (x : Txn) (u : State) : State := onBus (.receiving x 0) (opened .a u)
    (∀ cls ∈ [TxnClass.sweep, .recheck, .query], ∀ u ∈ [State.reset, holding unit],
      (s (poll cls) u).takesRequest .a = true ∧ (s (poll cls) u).engine.run = .off ∧
      (¬∃ r ∈ (s (poll cls) u).queue.records, r.state ≠ .queued) ∧ (s (poll cls) u).fbc.enabled = true ∧
      (s (poll cls) u).txn? = some (poll cls)) ∧
    (poll .query).port = some .b ∧ State.reset.consumer? 17 = none ∧ (holding unit).consumer? 17 = some unit ∧
    (moveTxn.cls = .issue ∧ (s moveTxn State.reset).txn? = some moveTxn) := by decide

theorem witness_SetBusStoresTheSettings_rate : ∀ r : BitRate, r.hundreds ≠ (97#16).toNat := by
  intro r
  cases r <;> decide

/-- The ring is full, the oldest entry 0, and Port A has read none of it. -/
def fullRing : State :=
  { State.reset with journal :=
      ⟨(List.range 32).map fun i => ⟨BitVec.ofNat 16 i, 17, none, .l2, 0, .observed .first⟩, 32, ⟨0, 32, 32⟩⟩ }

theorem witness_RemovalsWriteTheJournalInOrder :
    State.reset.journal.ring.length < 32 ∧ 32 ≤ fullRing.journal.ring.length ∧
    fullRing.journal.ring = ⟨0, 17, none, .l2, 0, .observed .first⟩ :: fullRing.journal.ring.tail := by decide

theorem witness_LatchTakesItsEightStepsInOrder :
    let hold : State := latchDue.putConsumer 17 (some { unit with hold := some (.until 2001) })
    let old : State := latchDue.withRecords [{ move .queued with queuedRound := 1996 }]
    (latchDue.held = false ∧ latchDue.engine.expiryDue = true ∧ latchDue.engine.work = none) ∧
    (({ latchDue with engine := { latchDue.engine with window := 2879 } } : State).policy.active.windowLength ≤
      2879 + 1) ∧
    (hold.consumer? 17 = some { unit with hold := some (.until (2000 + 1)) } ∧ hold.engine.work = none) ∧
    (old.engine.work = none ∧ ∃ m ∈ old.queue.records, m.state = .queued ∧
      old.policy.active.queueWait < (2001 - m.queuedRound).toNat) ∧
    (({ busy with engine := { busy.engine with expiryDue := true } } : State).engine.work ≠ none) := by decide

/-- R22, R80: the move of a record that was installed anew in the round is withdrawn, even once it is CONFIRMED on the
move's source again; and so is a move whose target the record does not allow. -/
theorem test_post_withdraws_replaced :
    let s : State := { auto (holding unit) with engine := { busy.engine with run := .auto } }
    let m : Selected := ⟨17, .l2, .l3, 1, 1⟩
    (s.post 2000 [m]).2 = 1 ∧ ((s.markReplaced 17).post 2000 [m]).2 = 0 ∧
    ((s.putConsumer 17 (some { unit with allowed := ⟨true, true, false⟩ })).post 2000 [m]).2 = 0 := by decide

theorem witness_CompletionPostsAndPublishes : busy.held = false ∧ busy.engine.work ≠ none := by decide

/-- The figures' bounds hold of every working set in its ranges, such as section 3.6's with a fresh head report. -/
theorem witness_CompletionPostsAndPublishes_figures :
    let h : HeadReport := ⟨⟨⟨20000, -20000⟩, ⟨0, 0⟩, ⟨0, 0⟩⟩, 2000⟩
    ({ fiveConsumers with head := some h } : WorkingSet).wf ∧
    ({ fiveConsumers with head := some h } : WorkingSet).freshHead = some h := by decide

theorem witness_CompletionPostsAndPublishes_post :
    let s := auto (holding unit)
    let m : Selected := ⟨17, .l2, .l3, 1, 1⟩
    (s.engine.run = .auto ∧ s.consumer? m.consumer = some unit ∧ unit.phaseState = .confirmed ∧
      unit.recorded = some m.source ∧ unit.hold = none ∧ s.isFrozen unit.segment = false ∧
      (∀ r ∈ s.queue.records, r.consumer ≠ m.consumer) ∧ s.queue.records.length < 16) ∧
    unit.allowed.get m.target = true ∧ (∀ w ∈ s.engine.work, m.consumer ∉ w.replaced) ∧
    State.reset.engine.run ≠ .auto := by decide

theorem witness_RotationTurnsByThePhase :
    (-1000 ≤ (1000 : Int) ∧ (1000 : Int) ≤ 1000) ∧
    ((entry 0 0 0 .l3 (-1000)).phaseState ≠ .unknown ∧ (entry 0 0 0 .l3 (-1000)).recorded = some .l3) := by decide

theorem witness_SquareRootsAreExact :
    -262272 ≤ (262272 : Int) ∧ (262272 : Int) ≤ 262272 ∧ -262272 ≤ (-262272 : Int) := by decide

/-- The searches of section 3.6: the first has a fitting candidate, and one whose gain is not positive. -/
theorem witness_SearchChoosesTheBestCandidate :
    fiveConsumers.gate = none ∧ ({ fiveConsumers with occupancy := 1 } : WorkingSet).gate ≠ none ∧
    (fiveConsumers.candidates []).length = 10 ∧ fiveConsumers.eligible (entry 1 1 3 .l1 150) = true ∧
    (fiveConsumers.choose ⟨fiveConsumers.neutrals, fiveConsumers.sums⟩ (fiveConsumers.candidates [])).isSome = true ∧
    fiveConsumers.choose ⟨fiveConsumers.neutrals, fiveConsumers.sums⟩ [] = none ∧
    (fiveConsumers.entries.map (·.n)).Pairwise (· < ·) ∧ Phase.l1 ≠ .l2 := by decide +kernel

/-! #### Mains -/

/-- The L1 pin at a level, with what its qualifier holds. -/
def pinned (q : Qualifier) : State :=
  { State.reset with mtu := { State.reset.mtu with pins := State.reset.mtu.pins.set .l1 q } }

theorem witness_PinChangeSetsOrDropsTheCandidate :
    (State.reset.mtu.pins.get .l1).pin = .low ∧ ((State.reset.mtu.pins.get .l1).pin ≠ .high ∧ heldPart.held = true) ∧
    (State.reset.held = false ∧ (State.reset.mtu.pins.get .l1).accepted = none) ∧
    (((pinned ⟨.low, 0, some .high, some 0⟩).mtu.pins.get .l1).pin ≠ .high ∧
      ((pinned ⟨.low, 0, some .high, some 0⟩).mtu.pins.get .l1).accepted = some .high) ∧
    (((pinned ⟨.low, 0, some .low, none⟩).mtu.pins.get .l1).accepted = some .low ∧ Level.low ≠ .high) := by decide

theorem witness_QualifiedEdgeStampsItsPhase :
    ((State.reset.mtu.pins.get .l1).accepted = none ∧ State.reset.held = false ∧
      State.reset.mtu.settings.qualify * 100 ≤ ((1000 : Time) - (State.reset.mtu.pins.get .l1).changedAt).toNat) ∧
    (((pinned ⟨.low, 0, some .high, some 0⟩).mtu.pins.get .l1).candidate = some 0 ∧ 10 * 100 ≤ ((1000 : Time) - 0).toNat) ∧
    (((pinned ⟨.high, 0, some .low, some 0⟩).mtu.pins.get .l1).accepted = some .low ∧
      (pinned ⟨.high, 0, some .low, some 0⟩).mtu.prevL1 = none) ∧
    ((risingL2.mtu.pins.get .l2).candidate = some 5006720 ∧ (risingL2.mtu.pins.get .l2).accepted = some .low ∧
      Phase.l2 ≠ .l1 ∧ 10 * 100 ≤ ((5007720 : Time) - 5006720).toNat) := by decide

/-- L1 is to close a period of 20040 us that began at 0, with L2 and L3 stamped at 6690 and 13370. -/
def closing (m : MainsState) (l2 l3 candidate : Time) (mark3 : Bool) : State :=
  { State.reset with mtu := { State.reset.mtu with
      pins := State.reset.mtu.pins.set .l1 ⟨.high, candidate, some .low, some candidate⟩
      stamps := ⟨some 0, some l2, some l3⟩, mark2 := true, mark3 := mark3, prevL1 := some 0, mains := m } }

/-- Section 6.3's five lines, in their order: good, reversed, spacing, period, a clear mark. -/
theorem witness_CycleCheckJudgesThePeriod :
    let premises (s : State) (c t : Time) : Prop :=
      s.held = false ∧ s.mtu.mains ≠ .absent ∧ s.mtu.pins.l1.accepted = some .low ∧
        s.mtu.pins.l1.candidate = some c ∧ s.mtu.prevL1 = some 0 ∧ s.mtu.settings.qualify * 100 ≤ (t - c).toNat
    (premises (closing .settling 6690 13370 20040 true) 20040 21040 ∧
      (after (.qualifyTimeExpiry .l1 21040) (closing .settling 6690 13370 20040 true)).mtu.good = 1) ∧
    (premises (closing .valid 13360 6680 20040 true) 20040 21040 ∧
      (after (.qualifyTimeExpiry .l1 21040) (closing .valid 13360 6680 20040 true)).mtu.lastFault =
        some ⟨.reversed, 0, 21040⟩) ∧
    (premises (closing .disturbed 7500 13370 20040 true) 20040 21040 ∧
      (after (.qualifyTimeExpiry .l1 21040) (closing .disturbed 7500 13370 20040 true)).mtu.lastFault =
        some ⟨.spacing, 0, 21040⟩) ∧
    (premises (closing .valid 6820 13630 20450 true) 20450 21450 ∧
      (after (.qualifyTimeExpiry .l1 21450) (closing .valid 6820 13630 20450 true)).mtu.lastFault =
        some ⟨.period, 0, 21450⟩) ∧
    (premises (closing .valid 6650 13320 19980 false) 19980 20980 ∧
      (after (.qualifyTimeExpiry .l1 20980) (closing .valid 6650 13320 19980 false)).mtu.lastFault =
        some ⟨.spacing, 0, 20980⟩) := by decide

theorem witness_LossOfAPhaseDisturbsTheMains :
    let s := closing .valid 6690 13370 20040 true
    s.held = false ∧ s.mtu.stamps.get .l2 = some 6690 ∧ 3 * 20000 ≤ ((66690 : Time) - 6690).toNat ∧
    s.mtu.mains ≠ .absent := by decide

theorem witness_CycleTickCountsTimerAndWaits :
    (State.reset.held = false ∧ State.reset.mtu.source = none ∧
      20000 ≤ ((20000 : Time) - State.reset.mtu.lastInternal).toNat) ∧
    (onBus (.awaiting (poll .sweep) 0) State.reset).running .sweep = true ∧ State.reset.running .sweep = false ∧
    ((holding unit).consumer? 17 = some unit ∧ (holding unit).arb.pointer ≤ 17 ∧ unit.recheck = false ∧
      unit.health ≤ 119) := by decide

theorem witness_CycleTickCountsTimerAndWaits_sweepEnds :
    ¬∃ n c, State.reset.consumer? n = some c ∧ State.reset.arb.pointer ≤ n ∧ c.recheck = false ∧
      (c.health ≤ 119 ∨ State.reset.arb.sweepCount = 0) := by
  rintro ⟨n, c, h, -⟩
  simp [State.consumer?, State.reset, List.getElem?_replicate] at h
  split at h <;> simp at h

/-! #### Executor, Arbiter, field bus -/

theorem witness_AttemptWaitEndMovesTheStageOn :
    let ended (m : MainsState) (st : MoveState) : State :=
      (onMains m (flying st)).withRecords [{ move st with waitEnded := true }]
    ((ended .valid .issuing).held = false ∧
      (ended .valid .issuing).queue.records = [{ move .issuing with waitEnded := true }] ∧
      (ended .valid .issuing).mtu.mains = .valid) ∧
    ((ended .disturbed .issuing).mtu.mains ≠ .valid) ∧
    (ended .valid .switching).queue.records = [{ move .switching with waitEnded := true }] ∧
    (ended .valid .confirming).queue.records = [{ move .confirming with waitEnded := true }] := by decide

theorem witness_IssueGrantSendsTheMoveFrame :
    let first := onBus .free ((onMains .valid (holding unit)).withRecords [move .queued])
    let second := onBus .free ((flying .issuing).withRecords [{ move .issuing with attemptDue := true }])
    (first.held = false ∧ first.grants .issue = true ∧ first.queue.records = [move .queued] ∧
      first.consumer? 17 = some unit) ∧
    (second.grants .issue = true ∧ second.queue.records = [{ move .issuing with attemptDue := true }] ∧
      (second.consumer? 17).isSome = true ∧ (move .issuing).deadTime = some 4) ∧
    ((onBus (.sending (poll .sweep)) State.reset).fbc.link = .online (.sending (poll .sweep)) ∧
      (poll .sweep).frame[3]? = some 104 ∧ 10 < 11) ∧
    State.reset.fbc.link = .joining 0 := by decide

theorem witness_PollGrantsSendThePollFrame :
    let confirm := onBus .free ((flying .confirming).withRecords [{ move .confirming with attemptDue := true }])
    let query : State := onBus .free
      { holding unit with arb := ⟨0, 0, 0, ⟨⟨.waiting 17, none⟩, ⟨.idle, none⟩, ⟨.idle, none⟩⟩, [.a]⟩ }
    (confirm.held = false ∧ confirm.grants .confirm = true ∧
      confirm.queue.records = [{ move .confirming with attemptDue := true }] ∧ (confirm.consumer? 17).isSome = true) ∧
    (query.held = false ∧ query.grants .query = true ∧ query.arb.order = [.a] ∧
      (query.arb.slots.get .a).stage = .waiting 17 ∧ query.consumer? 17 = some unit) := by decide

/-- Only C17 has a record. -/
theorem holding_only (c d : Consumer) (n : Nat) (h : (holding c).consumer? n = some d) : n = 17 := by
  by_contra hn
  have hr : State.reset.consumer? n = none := by
    simp [State.consumer?, State.reset, List.getElem?_replicate]
    split <;> simp
  rw [holding, State.consumer?_putConsumer, if_neg (by simp [hn]), hr] at h
  cases h

theorem witness_PollGrantsSendThePollFrame_recheck :
    let c : Consumer := { unit with phaseState := .uncertain, recheck := true }
    let s := onBus .free (holding c)
    s.held = false ∧ s.grants .recheck = true ∧ s.consumer? 17 = some c ∧ c.recheck = true ∧ c.tried = false ∧
    ∀ m d, m < 17 → s.consumer? m = some d → ¬(d.recheck = true ∧ d.tried = false) := by
  refine ⟨by decide, by decide, by decide, by decide, by decide, fun m d hm h => ?_⟩
  exact absurd (holding_only _ _ _ h) (by omega)

theorem witness_PollGrantsSendThePollFrame_sweep :
    let s := onBus .free (holding unit)
    s.held = false ∧ s.grants .sweep = true ∧ s.consumer? 17 = some unit ∧ s.arb.pointer ≤ 17 ∧
    (unit.recheck = false ∧ unit.health ≤ 119) ∧
    ∀ m d, s.arb.pointer ≤ m → m < 17 → s.consumer? m = some d →
      ¬(d.recheck = false ∧ (d.health ≤ 119 ∨ s.arb.sweepCount = 0)) := by
  refine ⟨by decide, by decide, by decide, by decide, by decide, fun m d _ hm h => ?_⟩
  exact absurd (holding_only _ _ _ h) (by omega)

theorem witness_EchoesDecideSentOrContended :
    let good (b : Byte) (e : Option RxChar) : Prop :=
      ∃ c, e = some c ∧ c.data = b ∧ c.stopAtMark = true ∧ (ones c.data + c.parity.toNat) % 2 = 1
    (State.reset.held = false ∧
      (onBus (.sending (poll .sweep)) (holding unit)).fbc.link = .online (.sending (poll .sweep))) ∧
    List.Forall₂ good (poll .sweep).frame ((poll .sweep).frame.map fun b => some (charOf b)) ∧
    (∃ (i : Nat) (b : Byte) (e : Option RxChar),
      (poll .sweep).frame[i]? = some b ∧ [(none : Option RxChar)][i]? = some e ∧ ¬good b e) := by
  refine ⟨by decide, ?_, 0, 151, none, by decide, by decide, by rintro ⟨c, h, -⟩; cases h⟩
  rw [List.forall₂_map_right_iff]
  have key : ∀ b ∈ (poll .sweep).frame,
      (charOf b).stopAtMark = true ∧ (ones (charOf b).data + (charOf b).parity.toNat) % 2 = 1 := by decide
  exact List.forall₂_same.2 fun b hb => ⟨charOf b, rfl, rfl, key b hb⟩

/-- The classes whose contended transaction has its own clause, each with what its clause needs. -/
theorem witness_EchoesDecideSentOrContended_classes :
    (poll .sweep).cls = .sweep ∧ ((poll .recheck).cls = .recheck ∧ (holding unit).consumer? 17 = some unit) ∧
    State.reset.consumer? 17 = none ∧ ((poll .query).cls = .query ∧ (poll .query).port = some .b) ∧
    (moveTxn.cls = .issue ∧ (flying .issuing).queue.records = [move .issuing] ∧ (move .issuing).state = .issuing) ∧
    ((poll .confirm).cls = .confirm ∧ (flying .confirming).queue.records = [move .confirming]) := by decide

/-- FRX stands at space. -/
def atSpace (s : State) : State := s.setFrx .space

theorem witness_LineEventsMoveTheLink :
    (onBus .free State.reset).fbc.link = .online .free ∧
    ((onBus (.quiet 0 13750) State.reset).fbc.link = .online (.quiet 0 13750) ∧
      264 * 1000000 ≤ ((13750 : Time) - 0).toNat * 19200 ∧
      264 * 1000000 < ((13750 : Time) - 0).toNat * 19200 + 44 * 1000000) ∧
    ((atSpace (onBus (.quiet 0 0) State.reset)).fbc.link = .online (.quiet 0 0) ∧
      (atSpace (onBus (.quiet 0 0) State.reset)).fbc.frx = .space) ∧
    ((onBus (.quiet 0 0) State.reset).fbc.link = .online (.quiet 0 0) ∧
      (onBus (.quiet 0 0) State.reset).fbc.frx = .mark ∧ 44 * 1000000 ≤ ((2292 : Time) - 0).toNat * 19200 ∧
      ((0 : Time) - 0).toNat * 19200 + 44 * 1000000 ≤ 264 * 1000000) ∧
    (State.reset.fbc.link = .joining 0 ∧ State.reset.fbc.frx = .mark ∧
      264 * 1000000 ≤ ((13750 : Time) - 0).toNat * 19200) ∧
    ((onBus (.awaiting (poll .sweep) 0) State.reset).fbc.link = .online (.awaiting (poll .sweep) 0) ∧
      ((20000 : Time) - 0).toNat ≤ 20000 ∧ ¬((20001 : Time) - 0).toNat ≤ 20000) ∧
    (onBus (.receiving (poll .sweep) 5) State.reset).fbc.link = .online (.receiving (poll .sweep) 5) := by decide

/-- A character of a reply from unit 23 begins at 20,000 us, the last moment at which a reply may begin. -/
def firstChar (b : Byte) : RxAt := ⟨20000, charOf b⟩

theorem witness_FailedRepliesCountAgainstTheUnit :
    let s := onBus (.awaiting (poll .query) 0) (holding unit)
    (s.held = false ∧ s.fbc.link = .online (.awaiting (poll .query) 0) ∧ ((20000 : Time) - 0).toNat ≤ 20000 ∧
      20000 ≤ ((20000 : Time) - 0).toNat ∧ (poll .query).port = some .b) ∧
    ([firstChar 23].head? = some (firstChar 23) ∧ [firstChar 23].getLast? = some (firstChar 23) ∧
      judge (poll .query).expects ([firstChar 23].map (·.char)) = .incomplete ∧
      (11 + 33) * 1000000 ≤ ((22292 : Time) - 20000).toNat * 19200 ∧
      ((22291 : Time) - 20000).toNat * 19200 < (11 + 33) * 1000000) ∧
    judge (poll .query).expects ([firstChar 24].map (·.char)) = .failed .address ∧
    ([⟨20001, charOf 23⟩].head? = some (⟨20001, charOf 23⟩ : RxAt) ∧ 20000 < ((20001 : Time) - 0).toNat) := by decide

/-- Two characters, the second at the gap limit after the first. -/
theorem witness_FailedRepliesCountAgainstTheUnit_near :
    ∀ (i : Nat) (c d : RxAt), [firstChar 23, ⟨22291, charOf 0x11⟩][i]? = some c →
      [firstChar 23, ⟨22291, charOf 0x11⟩][i + 1]? = some d →
      (d.start - c.start).toNat * 19200 ≤ (11 + 33) * 1000000 := by
  intro i c d hc hd
  match i with
  | 0 =>
    cases hc
    cases hd
    decide
  | i + 1 => simp at hd

/-- The classes, each with what its clause needs. -/
theorem witness_FailedRepliesCountAgainstTheUnit_classes :
    let issue := onBus (.awaiting moveTxn 0) (flying .issuing)
    let confirm := onBus (.receiving (poll .confirm) 0) (flying .confirming)
    ((poll .recheck).cls = .recheck ∨ (poll .recheck).cls = .sweep) ∧
    (moveTxn.cls = .issue ∧ issue.queue.records = [move .issuing] ∧ (move .issuing).state = .issuing) ∧
    (confirm.fbc.link = .online (.receiving (poll .confirm) 0) ∧ confirm.queue.records = [move .confirming] ∧
      (move .confirming).confirmAttempts < 3 ∧
      3 ≤ ({ move .confirming with confirmAttempts := 3 } : MoveRecord).confirmAttempts ∧
      (confirm.consumer? 17).isSome = true) := by decide

/-- The characters of a STATE and of an ANSWER, with the longest gaps at 19200 bit/s. -/
theorem witness_WholeReplies_near :
    ∀ (n : Nat), n = 6 ∨ n = 10 → (paced n 0 2291).starts.head? = some 0 ∧ (paced n 0 2291).starts.length = n ∧
      ∀ (i : Nat) (a b : Time), (paced n 0 2291).starts[i]? = some a → (paced n 0 2291).starts[i + 1]? = some b →
        (b - a).toNat * 19200 ≤ (11 + 33) * 1000000 := by
  rintro n (rfl | rfl)
  · exact ⟨rfl, rfl, (gapFree_iff .r19200 _).1 (by decide)⟩
  · exact ⟨rfl, rfl, (gapFree_iff .r19200 _).1 (by decide)⟩

theorem witness_GoodStateReplyUpdatesTheMap :
    let s (cls : TxnClass) := onBus (.receiving (poll cls) 0) (holding unit)
    let waits := onBus (.awaiting (poll .sweep) 0) (holding unit)
    ((s .sweep).held = false ∧ (s .sweep).fbc.link = .online (.receiving (poll .sweep) 0) ∧
      ((poll .sweep).cls = .recheck ∨ (poll .sweep).cls = .sweep)) ∧
    (waits.fbc.link = .online (.awaiting (poll .sweep) 0) ∧ ((20000 : Time) - 0).toNat ≤ 20000) ∧
    ((s .query).fbc.link = .online (.receiving (poll .query) 0) ∧ (poll .query).cls = .query ∧
      (poll .query).port = some .b) ∧
    ((s .confirm).fbc.link = .online (.receiving (poll .confirm) 0) ∧ (poll .confirm).cls = .confirm) ∧
    ((onBus (.receiving moveTxn 0) (flying .issuing)).fbc.link = .online (.receiving moveTxn 0) ∧
      moveTxn.cls = .issue) := by decide

theorem witness_ConfirmReplyDecidesTheOutcome :
    let s := onBus (.receiving (poll .confirm) 0) (flying .confirming)
    (s.held = false ∧ s.fbc.link = .online (.receiving (poll .confirm) 0) ∧
      (poll .confirm).cls = .confirm ∧
      (poll .confirm).sameRecord = true ∧ s.queue.records = [move .confirming] ∧
      (move .confirming).state = .confirming ∧ (move .confirming).consumer = (poll .confirm).consumer ∧
      (move .confirming).source ≠ (move .confirming).target ∧
      s.consumer? 17 = some { unit with phaseState := .moving }) ∧
    (3#8).toNat % 4 = phaseCode .l3 ∧ (2#8).toNat % 4 = phaseCode .l2 ∧
    ((1#8).toNat % 4 = phaseCode .l1 ∧ Phase.l1 ≠ .l3 ∧ Phase.l1 ≠ .l2) ∧
    ((0#8).toNat % 4 = 0 ∧ (move .confirming).confirmAttempts < 3) ∧
    3 ≤ ({ move .confirming with confirmAttempts := 3 } : MoveRecord).confirmAttempts := by decide

theorem witness_AnswerDecidesTheAttempt :
    let s := onBus (.receiving moveTxn 0) (flying .issuing)
    (s.held = false ∧ s.fbc.link = .online (.receiving moveTxn 0) ∧
      moveTxn.cls = .issue ∧
      moveTxn.sameRecord = true ∧ s.queue.records = [move .issuing] ∧
      (move .issuing).consumer = moveTxn.consumer ∧ (s.consumer? 17).isSome = true) ∧
    (132#8 = (move .issuing).id.setWidth 8 ∧ ¬131#8 = (move .issuing).id.setWidth 8) ∧
    ((0x00#8).toNat % 16 = 0 ∧ 6 ≤ (0x06#8).toNat % 16) ∧
    ((0x01#8).toNat % 16 = 1 ∧ (0x05#8).toNat % 16 = 5 ∧ (0x03#8).toNat % 16 = 3 ∧ (0x04#8).toNat % 16 = 4) ∧
    ((0x02#8).toNat % 16 = 2 ∧ (0x02#8).toNat / 16 % 4 = 0 ∧ (0x22#8).toNat / 16 % 4 = phaseCode .l2 ∧
      (0x32#8).toNat / 16 % 4 = phaseCode .l3 ∧ Phase.l3 ≠ (move .issuing).source) := by decide

/-! #### Invariants -/

/-- A command that answers a next state from a state that meets every invariant. -/
theorem witness_Invariants :
    let s : State := { State.reset with pending := [.roundTimerExpiry] }
    s.journal.wf ∧ s.movesWf ∧ s.blockedWf ∧ s.mainsWf ∧ s.feederWf ∧ s.arbiterWf ∧
    step s = .next { s with pending := [] } := by
  refine ⟨by decide, by decide, by decide, by decide, by decide, by decide, rfl⟩

theorem witness_RoundNumberCountsTheLatches :
    (∃ t, exec .roundTimerExpiry latchDue = .next t) ∧
    (after .roundTimerExpiry latchDue).engine.round = latchDue.engine.round + 1 := by
  exact ⟨⟨_, rfl⟩, by decide⟩

end Sys2Proof.Tests
end

/-! PROOFS. The Connection Map's requests (01_the_connection_map.md): how a judged request is answered, and RELEASE. -/

namespace Sys2Proof.Machine

/-! ### The answer of a judged request (R167, R169) -/

/-- A request that its port takes and its judge refuses. -/
theorem State.request_of_refused {s t : State} {p : Port} {r : Result} {judge : State → State × Answer}
    (h : s.takesRequest p = true) (hj : judge s = (t, refuse r)) : s.request p judge = t.answering p r [] := by
  rw [State.request_of_taken judge h, hj]
  rfl

/-- A request that its port takes and its judge passes. -/
theorem State.request_of_okay {s t : State} {p : Port} {fields : List Byte} {judge : State → State × Answer}
    (h : s.takesRequest p = true) (hj : judge s = (t, okay fields)) :
    s.request p judge = t.answering p .ok fields := by
  rw [State.request_of_taken judge h, hj]
  rfl

/-! ### RELEASE (R17) -/

/-- Putting back the record that stands changes nothing. -/
theorem State.putConsumer_self {s : State} {n : Nat} {c : Consumer} (hc : s.consumer? n = some c) :
    s.putConsumer n (some c) = s := by
  obtain ⟨hn, hget⟩ := List.getElem?_eq_some_iff.1 (Option.join_eq_some_iff.1 hc)
  rw [State.putConsumer, ← hget, List.set_getElem_self]

/-- Only Port C may ask for a release (R17, R170). -/
theorem execRelease_rights {s : State} {p : Port} (n : Byte) (h : s.takesRequest p = true) (hp : p ≠ .c) :
    execRelease p n s = .next (s.answering p .rights []) :=
  congrArg Host.Outcome.next (State.request_of_refused h (if_pos hp))

/-- A consumer number of 96 or more is out of range (R17). -/
theorem execRelease_range {s : State} {n : Byte} (h : s.takesRequest .c = true) (hn : 96 ≤ n.toNat) :
    execRelease .c n s = .next (s.answering .c .range []) :=
  congrArg Host.Outcome.next (State.request_of_refused h (by simp [Config.consumers, hn]))

/-- A release of an absent record is refused (R17). -/
theorem execRelease_absent {s : State} {n : Byte} (h : s.takesRequest .c = true) (hn : n.toNat < 96)
    (hc : s.consumer? n.toNat = none) : execRelease .c n s = .next (s.answering .c .absent []) :=
  congrArg Host.Outcome.next (State.request_of_refused h (by simp [Config.consumers, hn, hc]))

/-- A release of a present record makes its hold absent (R17). -/
theorem execRelease_present {s : State} {n : Byte} {c : Consumer} (h : s.takesRequest .c = true)
    (hn : n.toNat < 96) (hc : s.consumer? n.toNat = some c) :
    execRelease .c n s =
      .next ((s.putConsumer n.toNat (some { c with hold := none })).answering .c .ok []) :=
  congrArg Host.Outcome.next (State.request_of_okay h
    (by simp [Config.consumers, hn, hc, State.updateConsumer_of_present hc]))

/-- Settles O28, answer by answer in the order of R17's checks; where no hold stands, the record put back is the one that
stood. -/
theorem releaseRemovesTheHold : Obligations.ReleaseRemovesTheHold := by
  intro s p n h
  refine ⟨execRelease_rights n h, ?range, ?absent, ?present⟩
  case range =>
    rintro rfl hn
    exact execRelease_range h hn
  case absent =>
    rintro rfl hn hc
    exact execRelease_absent h hn hc
  case present =>
    rintro c rfl hn hc
    refine ⟨_, execRelease_present h hn hc, rfl, fun hnone => ?_⟩
    have hsame : { c with hold := none } = c := by rw [← hnone]
    rw [hsame, State.putConsumer_self hc]

end Sys2Proof.Machine


/-! PROOFS. The Segment Table and the Policy Store (02_segments_freezes_and_policy.md): THAW, the three requests on the
policy sets, what a latch does to them, and which commands leave them alone. -/

namespace Sys2Proof.Machine

/-! ### Freezes: THAW (R30, R31) -/

/-- A consumer's segment is frozen where some frozen segment lies at or below it (R30). -/
theorem State.isFrozen_iff (s : State) (g : Nat) :
    s.isFrozen g = true ↔ ∃ j q, j ≤ g ∧ s.segs.segments[j]? = some q ∧ q.frozenAt ≠ none := by
  simp only [State.isFrozen, frozenAt, SegTable.frozenSet, List.any_eq_true, List.mem_iff_getElem?, List.getElem?_take,
    List.getElem?_map]
  simp [Option.isSome_iff_ne_none]

/-- The record that is read on a segment of the table. -/
theorem State.segment_of_getElem? {s : State} {k : Nat} {r : Segment} (hr : s.segs.segments[k]? = some r) :
    s.segment k = r := by
  simp [State.segment, List.getD_eq_getElem?_getD, hr]

/-- Putting back the segment record that stands changes nothing. -/
theorem State.putSegment_self {s : State} {k : Nat} {r : Segment} (hr : s.segs.segments[k]? = some r) :
    s.putSegment k r = s := by
  obtain ⟨hk, rfl⟩ := List.getElem?_eq_some_iff.1 hr
  rw [State.putSegment, List.set_getElem_self]

/-- Once a segment is thawed, the freezes that still count are those on the other segments (R31). -/
theorem State.putSegment_thawed_isFrozen {s : State} {k : Nat} {r : Segment} (hr : r.frozenAt = none) (g : Nat) :
    (s.putSegment k r).isFrozen g = true ↔
      ∃ j q, j ≤ g ∧ j ≠ k ∧ s.segs.segments[j]? = some q ∧ q.frozenAt ≠ none := by
  simp only [State.isFrozen_iff, State.putSegment, List.getElem?_set]
  refine exists_congr fun j => exists_congr fun q => and_congr_right fun _ => ?_
  by_cases hj : k = j
  · have hthawed : r = q → q.frozenAt = none := fun hq => hq ▸ hr
    simpa [hj] using fun _ => hthawed
  · simp [hj, Ne.symm hj]

/-- Only Port B may thaw (R31, R170). -/
theorem execThaw_rights {s : State} {p : Port} (k : Byte) (h : s.takesRequest p = true) (hp : p ≠ .b) :
    execThaw p k s = .next (s.answering p .rights []) :=
  congrArg Host.Outcome.next (State.request_of_refused h (if_pos hp))

/-- A segment at or beyond the count is out of range (R31). -/
theorem execThaw_range {s : State} {k : Byte} (h : s.takesRequest .b = true) (hk : s.segs.count ≤ k.toNat) :
    execThaw .b k s = .next (s.answering .b .range []) :=
  congrArg Host.Outcome.next (State.request_of_refused h (by simp [hk]))

/-- A thaw of an installed segment takes the freeze off its record (R31). -/
theorem execThaw_installed {s : State} {k : Byte} {r : Segment} (h : s.takesRequest .b = true)
    (hk : k.toNat < s.segs.count) (hr : s.segs.segments[k.toNat]? = some r) :
    execThaw .b k s = .next ((s.putSegment k.toNat { r with frozenAt := none }).answering .b .ok []) :=
  congrArg Host.Outcome.next (State.request_of_okay h
    (by simp [Nat.not_le.2 hk, State.segment_of_getElem? hr]))

/-- Settles O23, answer by answer in the order of R31's checks; where no freeze stands, the record put back is the one
that stood. -/
theorem thawRemovesOnlyItsOwnFreeze : Obligations.ThawRemovesOnlyItsOwnFreeze := by
  intro s p k h
  refine ⟨execThaw_rights k h, ?range, ?installed⟩
  case range =>
    rintro rfl hk
    exact execThaw_range h hk
  case installed =>
    rintro r rfl hk hr
    refine ⟨_, execThaw_installed h hk hr, rfl, fun hnone => ?_,
      State.putSegment_thawed_isFrozen (s := s) (k := k.toNat) (r := { r with frozenAt := none }) rfl⟩
    have hsame : { r with frozenAt := none } = r := by rw [← hnone]
    rw [hsame, State.putSegment_self hr]

/-! ### The policy sets: WRITE POLICY (R35, R36) -/

/-- Clamping into a range that is not empty. -/
theorem clampNat_eq {lo hi : Nat} (h : lo ≤ hi) (v : Nat) : clampNat lo hi v = max lo (min hi v) := by
  unfold clampNat
  split
  · omega
  · split <;> omega

/-- No field's range is empty (R35). -/
theorem policyRange_le : ∀ f < 20, (policyRange f).1 ≤ (policyRange f).2 := by decide

/-- A field's width is that of the greatest value of its range (R168). -/
theorem policyBytes_eq {f : Nat} (hf : f < 20) (v : Nat) :
    policyBytes f v =
      if (policyRange f).2 < 2 ^ 8 then u1 v else if (policyRange f).2 < 2 ^ 16 then u2 v else u4 v := by
  interval_cases f <;> rfl

/-- Writing a field leaves the number of weights as it was. -/
theorem Policy.put_weights_length (q : Policy) (f v : Nat) : (q.put f v).weights.length = q.weights.length := by
  unfold Policy.put
  split <;> simp

/-- A field that is written reads as written, and every other field as before: each id names the same one of the twenty
components for the write and for the read (R35, R36). -/
theorem Policy.field_put {q : Policy} (hq : q.weights.length = 8) {f g : Nat} (hf : f < 20) (hg : g < 20) (v : Nat) :
    (q.put f v).field g = if g = f then v else q.field g := by
  obtain ⟨_, _, _, _, weights, _, _, _, _, _, _, _, _⟩ := q
  match weights, hq with
  | [_, _, _, _, _, _, _, _], _ => interval_cases f <;> interval_cases g <;> rfl

/-- Only Port A may write the policy (R36, R170). -/
theorem execWritePolicy_rights {s : State} {p : Port} (f : Byte) (v : BitVec 32) (h : s.takesRequest p = true)
    (hp : p ≠ .a) : execWritePolicy p f v s = .next (s.answering p .rights []) :=
  congrArg Host.Outcome.next (State.request_of_refused h (if_pos hp))

/-- A field id of 20 or more is out of range (R36). -/
theorem execWritePolicy_range {s : State} {f : Byte} (v : BitVec 32) (h : s.takesRequest .a = true)
    (hf : 20 ≤ f.toNat) : execWritePolicy .a f v s = .next (s.answering .a .range []) :=
  congrArg Host.Outcome.next (State.request_of_refused h (by simp [hf]))

/-- A write to a field that there is stores the clamped value in the pending set and answers it (R36). -/
theorem execWritePolicy_stored {s : State} {f : Byte} {v : BitVec 32} {stored : Nat} (h : s.takesRequest .a = true)
    (hf : f.toNat < 20) (hstored : policyClamp f.toNat v.toNat = stored) :
    execWritePolicy .a f v s = .next
      (({ s with policy := { s.policy with staged := s.policy.staged.put f.toNat stored } } : State).answering .a .ok
        (policyBytes f.toNat stored)) :=
  congrArg Host.Outcome.next (State.request_of_okay h (by simp [Nat.not_le.2 hf, hstored]))

/-- Settles O16: the table of ranges is `policyRange`, read as a list. -/
theorem writePolicyStoresTheClampedValue : Obligations.WritePolicyStoresTheClampedValue := by
  intro s p f v h ranges
  refine ⟨execWritePolicy_rights f v h, ?range, ?stored⟩
  case range =>
    rintro rfl hf
    exact execWritePolicy_range v h hf
  case stored =>
    rintro lo hi rfl hget hlen stored
    obtain ⟨hf, hrange⟩ : ∃ hf : f.toNat < 20, policyRange f.toNat = (lo, hi) := by
      have htable : ranges = (List.range 20).map policyRange := rfl
      simpa [htable] using List.getElem?_eq_some_iff.1 hget
    have hstored : policyClamp f.toNat v.toNat = stored := by
      have hle := policyRange_le f.toNat hf
      simp only [hrange] at hle
      rw [policyClamp, hrange, clampNat_eq hle]
    refine ⟨s.policy.staged.put f.toNat stored, ?_, (Policy.put_weights_length ..).trans hlen,
      fun g hg => Policy.field_put hlen hf hg stored⟩
    have hexec := execWritePolicy_stored h hf hstored
    rw [policyBytes_eq hf, hrange] at hexec
    exact hexec

/-! ### The policy sets: COMMIT POLICY and DISCARD POLICY (R37, R38) -/

/-- Only Port A may commit (R37, R170). -/
theorem execCommitPolicy_rights {s : State} {p : Port} (h : s.takesRequest p = true) (hp : p ≠ .a) :
    execCommitPolicy p s = .next (s.answering p .rights []) :=
  congrArg Host.Outcome.next (State.request_of_refused h (if_pos hp))

/-- In OFF a commit acts at once (R37). -/
theorem execCommitPolicy_off {s : State} (h : s.takesRequest .a = true) (hrun : s.engine.run = .off) :
    execCommitPolicy .a s = .next (({ s with policy := s.policy.commit } : State).answering .a .ok []) :=
  congrArg Host.Outcome.next (State.request_of_okay h (by simp [hrun]))

/-- In AUTO a commit is armed (R37). -/
theorem execCommitPolicy_auto {s : State} (h : s.takesRequest .a = true) (hrun : s.engine.run = .auto) :
    execCommitPolicy .a s =
      .next (({ s with policy := { s.policy with armed := true } } : State).answering .a .ok []) :=
  congrArg Host.Outcome.next (State.request_of_okay h (by simp [hrun]))

/-- Only Port A may discard (R38, R170). -/
theorem execDiscardPolicy_rights {s : State} {p : Port} (h : s.takesRequest p = true) (hp : p ≠ .a) :
    execDiscardPolicy p s = .next (s.answering p .rights []) :=
  congrArg Host.Outcome.next (State.request_of_refused h (if_pos hp))

/-- A discard acts at once in any run state (R38). -/
theorem execDiscardPolicy_done {s : State} (h : s.takesRequest .a = true) :
    execDiscardPolicy .a s =
      .next (({ s with policy := ⟨s.policy.active, s.policy.active, false⟩ } : State).answering .a .ok []) :=
  congrArg Host.Outcome.next (State.request_of_okay h rfl)

/-! ### The policy at a latch (R37, R65) -/

/-- Step 1 of the latch commits where a commit is armed (R37). -/
theorem State.latchCommit_policy (s : State) :
    s.latchCommit.policy = if s.policy.armed then s.policy.commit else s.policy := by
  unfold State.latchCommit
  split <;> rfl

/-- Only step 1 of the latch touches the policy (R65). -/
theorem State.latch_policy (s : State) :
    s.latch.policy = if s.policy.armed then s.policy.commit else s.policy := by
  simp [State.latch, State.latchCounted, State.latchCommit_policy]

theorem State.latchWindow_round (s : State) : s.latchWindow.engine.round = s.engine.round := by
  unfold State.latchWindow
  split <;> rfl

/-- A latch counts one round (R63). -/
theorem State.latch_round (s : State) : s.latch.engine.round = s.engine.round + 1 := by
  have hcopy (t : State) : t.latchCopy.engine.round = t.engine.round := rfl
  have hround (t : State) : t.latchRound.engine.round = t.engine.round + 1 := rfl
  simp [State.latch, State.latchCounted, hcopy, hround, State.latchWindow_round]

/-- The round that a latch starts works with the active set (R37, R67). -/
theorem State.latch_work (s : State) : ∃ w, s.latch.engine.work = some w ∧ w.policy = s.latch.policy.active :=
  ⟨_, rfl, rfl⟩

/-- A part that takes a request is not held (R178). -/
theorem State.held_of_takesRequest {s : State} {p : Port} (h : s.takesRequest p = true) : s.held = false := by
  simp only [State.takesRequest, Bool.and_eq_true, Bool.not_eq_true'] at h
  exact h.1

/-- An expiry that finds the Engine busy is lost (R62). -/
theorem State.takeExpiry_of_busy {s : State} {w : WorkingSet} (h : s.engine.work = some w) :
    s.takeExpiry = { s with engine := { s.engine with expiryDue := false } } := by
  simp [State.takeExpiry, h]

/-- An expiry that finds the Engine free makes a latch (R65). -/
theorem State.takeExpiry_of_free {s : State} (h : s.engine.work = none) :
    s.takeExpiry = { s with engine := { s.engine with expiryDue := false } }.latch := by
  simp [State.takeExpiry, h]

/-- The expiry that waits is taken as a latch (R62, R65). -/
theorem execRoundTimerExpiry_latches {s : State} (hheld : s.held = false) (hdue : s.engine.expiryDue = true)
    (hfree : s.engine.work = none) :
    execRoundTimerExpiry s = .next ({ s with engine := { s.engine with expiryDue := false } } : State).latch := by
  rw [execRoundTimerExpiry, State.event_of_true _ hheld hdue, State.takeExpiry_of_free hfree]

/-- An expiry that changes the active set is a latch that applies an armed commit and counts its round (R37, R63). -/
theorem State.takeExpiry_active {s : State} (h : s.takeExpiry.policy.active ≠ s.policy.active) :
    s.takeExpiry.engine.round = s.engine.round + 1 ∧ s.policy.armed = true ∧
      s.takeExpiry.policy.active = s.policy.staged := by
  cases hwork : s.engine.work with
  | some w =>
    rw [State.takeExpiry_of_busy hwork] at h
    exact absurd rfl h
  | none =>
    rw [State.takeExpiry_of_free hwork] at h ⊢
    rw [State.latch_policy] at h ⊢
    rw [State.latch_round]
    cases harmed : s.policy.armed with
    | true => simp [PolicyStore.commit]
    | false => simp [harmed] at h

/-- An event that takes an expiry does no more to the active set than the expiry. -/
theorem State.event_takeExpiry_active {s : State} {cond : Bool}
    (h : (s.event cond State.takeExpiry).policy.active ≠ s.policy.active) :
    (s.event cond State.takeExpiry).engine.round = s.engine.round + 1 ∧ s.policy.armed = true ∧
      (s.event cond State.takeExpiry).policy.active = s.policy.staged := by
  unfold State.event at h ⊢
  split
  · next hcond =>
    rw [if_pos hcond] at h
    exact State.takeExpiry_active h
  · next hcond =>
    rw [if_neg hcond] at h
    exact absurd rfl h

/-! ### The windows at a latch -/

/-- Journal entries of removed records leave every window as it was. -/
theorem State.writeRemoved_window (s : State) (rs : List MoveRecord) (o : Outcome) (p : Port) :
    (s.writeRemoved rs o).window p = s.window p := by
  induction rs generalizing s with
  | nil => rfl
  | cons r rs ih => exact (ih _).trans (State.writeEntry_window ..).1

/-- A removal leaves every window as it was. -/
theorem State.removeQueued_window (s : State) (which : MoveRecord → Bool) (o : Outcome) (p : Port) :
    (s.removeQueued which o).window p = s.window p :=
  (State.writeRemoved_window ..).trans (State.writeRemoved_window ..)

/-- A latch leaves every window as it was. -/
theorem State.latch_window (s : State) (p : Port) : s.latch.window p = s.window p := by
  calc s.latch.window p = s.latchCounted.latchHolds.window p := State.removeQueued_window ..
    _ = s.window p := by simp [State.latchCounted, State.window]

/-- A latch changes nothing in whether a port takes a request. -/
theorem State.latch_takesRequest (s : State) (p : Port) : s.latch.takesRequest p = s.takesRequest p := by
  simp [State.takesRequest, State.latch_window]

/-- What the latch of an expiry leaves: the working set of its round, with the active set; the policy after an armed
commit; and every port as ready for a request as before (R37, R65, R67). -/
theorem execRoundTimerExpiry_free {s : State} (hheld : s.held = false) (hdue : s.engine.expiryDue = true)
    (hfree : s.engine.work = none) :
    ∃ t w, execRoundTimerExpiry s = .next t ∧ t.engine.work = some w ∧ w.policy = t.policy.active ∧
      t.policy = (if s.policy.armed then s.policy.commit else s.policy) ∧
      ∀ p, t.takesRequest p = s.takesRequest p := by
  obtain ⟨w, hwork, hpolicy⟩ := State.latch_work { s with engine := { s.engine with expiryDue := false } }
  exact ⟨_, w, execRoundTimerExpiry_latches hheld hdue hfree, hwork, hpolicy, State.latch_policy _,
    State.latch_takesRequest _⟩

/-! ### Which commands leave the policy alone -/

/-- A request keeps what its judge and an answer keep. -/
theorem State.request_keeps {α : Type} (f : State → α) {s : State} {p : Port} {judge : State → State × Answer}
    (hanswer : ∀ t w, f (State.setWindow t p w) = f t) (hjudge : f (judge s).1 = f s) :
    f (s.request p judge) = f s := by
  unfold State.request
  split
  · exact (hanswer ..).trans hjudge
  · rfl

/-- An event keeps what its effect keeps. -/
theorem State.event_keeps {α : Type} (f : State → α) {s : State} {cond : Bool} {effect : State → State}
    (heffect : f (effect s) = f s) : f (s.event cond effect) = f s := by
  unfold State.event
  split
  · exact heffect
  · rfl

/-- The closing of a window keeps the active set, with or without a RESTART (R177, R179). -/
theorem State.closeWindow_active (s : State) (p : Port) : (s.closeWindow p).policy.active = s.policy.active := by
  unfold State.closeWindow
  dsimp only
  split <;> rfl

/-- The commands that may write the policy store: the resets (and a window's closing, which may take a RESTART), the
requests on the policy, and the expiries at which a latch may follow (R35 to R38, R177, R179). -/
def mayWritePolicy : Instr → Bool
  | .powerOnReset _ | .warmReset _ | .selectWindowClose _ _ | .writePolicy _ _ _ | .commitPolicy _ | .discardPolicy _
  | .roundTimerExpiry | .windowExpiry | .holdExpiry | .expired => true
  | _ => false

/-- Every other command leaves the policy store as it is. -/
theorem exec_policy {i : Instr} {s t : State} (hi : mayWritePolicy i = false) (h : exec i s = .next t) :
    t.policy = s.policy := by
  cases i with
  | powerOnReset | warmReset | selectWindowClose | writePolicy | commitPolicy | discardPolicy
  | roundTimerExpiry | windowExpiry | holdExpiry | expired => cases hi
  | readStatus | readRound | readQueue | readMains | readPolicy | readQuery =>
    cases h
    exact State.request_keeps State.policy (fun _ _ => rfl) rfl
  | unknownRequest p code rest =>
    obtain hnext | ⟨r, hnext⟩ := execUnknownRequest_cases p code rest s <;> cases hnext.symm.trans h
    · rfl
    · exact State.request_keeps State.policy (fun _ _ => rfl) rfl
  | selectWindowOpen | zcPinChange =>
    cases h
    simp
  | completion | repeatDue | switchingWaitEnd | confirmRetryDue | issueGrant | confirmGrant | recheckGrant | queryGrant
  | sweepGrant =>
    cases h
    split
    · exact State.event_keeps State.policy (by simp)
    · rfl
  | resetnLow | qualifyTimeExpiry | lossExpiry | internalTick | requestSent | contention | foreignTalker | quietLimit
  | quietTimeEnd | joinWaitComplete | noReply | gap | replyFailed | state | answer | frxAtSpace =>
    cases h
    exact State.event_keeps State.policy (by simp)
  | readConsumer | readSegment | readJournal | start | stop | installConsumer | removeConsumer | setSegmentCount
  | installSegment | setMains | setBus | freeze | thaw | headReport | hold | release | requestMove | queryUnit
  | clearFlags | setMask | restart =>
    cases h
    refine State.request_keeps State.policy (fun _ _ => rfl) ?_
    (repeat' split) <;> simp

/-- The active set changes at POR, at a commit in OFF, and at a latch at which a commit was armed (R37). -/
theorem exec_active {i : Instr} {s t : State} (h : exec i s = .next t) (hne : t.policy.active ≠ s.policy.active) :
    (∃ u, i = .powerOnReset u) ∨ (∃ p, i = .commitPolicy p ∧ s.engine.run = .off) ∨
      (t.engine.round = s.engine.round + 1 ∧ s.policy.armed = true ∧ t.policy.active = s.policy.staged) := by
  cases i with
  | powerOnReset u => exact .inl ⟨u, rfl⟩
  | warmReset =>
    cases h
    split at hne <;> exact absurd rfl hne
  | selectWindowClose p u =>
    cases h
    exact absurd (State.closeWindow_active (s.at u) p) hne
  | writePolicy | discardPolicy =>
    cases h
    refine absurd (State.request_keeps (fun u => u.policy.active) (fun _ _ => rfl) ?_) hne
    (repeat' split) <;> rfl
  | commitPolicy p =>
    cases hrun : s.engine.run with
    | off => exact .inr (.inl ⟨p, rfl, rfl⟩)
    | auto =>
      cases h
      refine absurd (State.request_keeps (fun u => u.policy.active) (fun _ _ => rfl) ?_) hne
      split <;> simp [hrun]
  | roundTimerExpiry | windowExpiry | holdExpiry | expired =>
    cases h
    exact .inr (.inr (State.event_takeExpiry_active hne))
  | _ => exact absurd (congrArg PolicyStore.active (exec_policy rfl h)) hne

/-! ### O17 and O18 -/

/-- Settles O17: the request's three outcomes, the latch, STOP, and the commands that change the active set. -/
theorem commitPolicyMakesThePendingSetActive : Obligations.CommitPolicyMakesThePendingSetActive := by
  refine ⟨fun s p h => ⟨execCommitPolicy_rights h, ?off, ?auto⟩, ?latch, fun s t p => exec_policy rfl,
    fun i s t => exec_active⟩
  case off =>
    rintro rfl hrun
    exact execCommitPolicy_off h hrun
  case auto =>
    rintro rfl hrun
    exact execCommitPolicy_auto h hrun
  case latch =>
    intro s hheld hdue hfree
    obtain ⟨t, w, hexec, hwork, hset, hpolicy, -⟩ := execRoundTimerExpiry_free hheld hdue hfree
    exact ⟨t, w, hexec, hwork, hset, hpolicy⟩

/-- Settles O18: a discard before the latch leaves it no commit to apply, and one after it finds the pending set
that the latch has made active. -/
theorem discardPolicyCopiesTheActiveSet : Obligations.DiscardPolicyCopiesTheActiveSet := by
  refine ⟨fun s p h => ⟨execDiscardPolicy_rights h, ?done⟩, fun s h hdue hfree harmed => ⟨?discardFirst, ?latchFirst⟩⟩
  case done =>
    rintro rfl
    exact execDiscardPolicy_done h
  case discardFirst =>
    obtain ⟨t, hdiscard, hstore, hheld, hengine⟩ : ∃ t, execDiscardPolicy .a s = .next t ∧
        t.policy = ⟨s.policy.active, s.policy.active, false⟩ ∧ t.held = s.held ∧ t.engine = s.engine :=
      ⟨_, execDiscardPolicy_done h, rfl, rfl, rfl⟩
    obtain ⟨u, _, hlatch, -, -, hpolicy, -⟩ :=
      execRoundTimerExpiry_free (hheld.trans (State.held_of_takesRequest h)) (hengine ▸ hdue) (hengine ▸ hfree)
    exact ⟨t, u, hdiscard, hlatch, by simpa [hstore] using hpolicy⟩
  case latchFirst =>
    obtain ⟨t, _, hexec, -, -, hpolicy, hready⟩ := execRoundTimerExpiry_free (State.held_of_takesRequest h) hdue hfree
    rw [if_pos harmed] at hpolicy
    refine ⟨t, _, hexec, execDiscardPolicy_done ((hready .a).trans h), hpolicy, ?_⟩
    change PolicyStore.mk t.policy.active t.policy.active false = t.policy
    rw [hpolicy]
    rfl

end Sys2Proof.Machine


/-! PROOFS. Balance arithmetic (03_balance_arithmetic.md): the √3 term, and the rotated contributions of entries and
candidates. -/

namespace Sys2Proof.Machine

/-! ### The √3 term (R41) -/

/-- The √3 term is the one integer that R41's floor allows. -/
theorem sqrt3_eq_iff (v s : Int) :
    sqrt3 v = s ↔ s * 2048 ≤ v * 3547 + 1024 ∧ v * 3547 + 1024 < (s + 1) * 2048 := by
  rw [sqrt3, Int.ediv_eq_iff_of_pos (k := 2048) (by decide), add_one_mul]

theorem sqrt3_floor (v : Int) :
    sqrt3 v * 2048 ≤ v * 3547 + 1024 ∧ v * 3547 + 1024 < (sqrt3 v + 1) * 2048 :=
  (sqrt3_eq_iff v (sqrt3 v)).1 rfl

theorem sqrt3_mono {u v : Int} (h : u ≤ v) : sqrt3 u ≤ sqrt3 v :=
  Int.ediv_le_ediv (by decide) (by omega)

/-- No exact half: 3547 is odd, so a half needs v = 1024 modulo 2048, outside the input range (R41). -/
theorem sqrt3_no_half {v : Int} (hlo : -1000 ≤ v) (hhi : v ≤ 1000) : (v * 3547 + 1024) % 2048 ≠ 0 := by
  intro hhalf
  have hv : v % 2048 = 1024 := by omega
  omega

/-- Where no exact half falls, the √3 term is strictly nearest to 3547v/2048 (R41). -/
theorem sqrt3_nearest {v : Int} (hhalf : (v * 3547 + 1024) % 2048 ≠ 0) :
    -1024 < 2048 * sqrt3 v - 3547 * v ∧ 2048 * sqrt3 v - 3547 * v < 1024 := by
  obtain ⟨hle, hlt⟩ := sqrt3_floor v
  omega

/-- Being strictly nearest is symmetric about 0, so the √3 term is odd (R41). -/
theorem sqrt3_neg {v : Int} (hhalf : (v * 3547 + 1024) % 2048 ≠ 0) : sqrt3 (-v) = -sqrt3 v := by
  obtain ⟨hlo, hhi⟩ := sqrt3_nearest hhalf
  rw [sqrt3_eq_iff]
  constructor <;> omega

/-- The √3 term stays between its values at the two ends of the input range. -/
theorem sqrt3_bounds {v : Int} (hlo : -1000 ≤ v) (hhi : v ≤ 1000) : -1732 ≤ sqrt3 v ∧ sqrt3 v ≤ 1732 :=
  ⟨sqrt3_mono hlo, sqrt3_mono hhi⟩

/-! ### Rotated contributions (R42) -/

@[simp] theorem rotate_l1 (v : Phasor) : rotate .l1 v = ⟨2 * v.x, 2 * v.y⟩ := rfl

@[simp] theorem rotate_l2 (v : Phasor) : rotate .l2 v = ⟨-v.x + sqrt3 v.y, -sqrt3 v.x - v.y⟩ := rfl

@[simp] theorem rotate_l3 (v : Phasor) : rotate .l3 v = ⟨-v.x - sqrt3 v.y, sqrt3 v.x - v.y⟩ := rfl

/-- On L1 a contribution is the doubled reading. -/
theorem rotate_l1_bounds {v : Phasor} (hxlo : -1000 ≤ v.x) (hxhi : v.x ≤ 1000) (hylo : -1000 ≤ v.y)
    (hyhi : v.y ≤ 1000) :
    -2000 ≤ (rotate .l1 v).x ∧ (rotate .l1 v).x ≤ 2000 ∧ -2000 ≤ (rotate .l1 v).y ∧ (rotate .l1 v).y ≤ 2000 := by
  simp only [rotate_l1]
  omega

/-- On L2 and L3 each component is one reading of at most 1000 and one √3 term of at most 1732. -/
theorem rotate_bounds {v : Phasor} (hxlo : -1000 ≤ v.x) (hxhi : v.x ≤ 1000) (hylo : -1000 ≤ v.y)
    (hyhi : v.y ≤ 1000) (p : Phase) :
    -2732 ≤ (rotate p v).x ∧ (rotate p v).x ≤ 2732 ∧ -2732 ≤ (rotate p v).y ∧ (rotate p v).y ≤ 2732 := by
  have hsx := sqrt3_bounds hxlo hxhi
  have hsy := sqrt3_bounds hylo hyhi
  cases p with
  | l1 =>
    have h1 := rotate_l1_bounds hxlo hxhi hylo hyhi
    omega
  | l2 =>
    simp only [rotate_l2]
    omega
  | l3 =>
    simp only [rotate_l3]
    omega

/-! ### Counted entries (R40) -/

/-- An entry whose phase state is not UNKNOWN is counted on its recorded phase (R40). -/
theorem WorkEntry.countedPhase_of_known {e : WorkEntry} (h : e.phaseState ≠ .unknown) :
    e.countedPhase = e.recorded :=
  if_neg h

/-- A counted entry contributes its frozen reading, rotated by its recorded phase (R42). -/
theorem WorkEntry.contribution_of_known {e : WorkEntry} {p : Phase} (h : e.phaseState ≠ .unknown)
    (hp : e.recorded = some p) : e.contribution = some (rotate p e.frozen) := by
  rw [WorkEntry.contribution, WorkEntry.countedPhase_of_known h, hp, Option.map_some]

/-! ### O36 -/

/-- Settles O36: the √3 term and the values of R41's table, the rotation with its bounds, and its use for entries and
candidates. -/
theorem rotationTurnsByThePhase : Obligations.RotationTurnsByThePhase := by
  refine ⟨?rootThree, by decide, fun p x y => ⟨?table, ?bounds⟩,
    fun _ _ => WorkEntry.contribution_of_known, fun _ => rfl⟩
  case rootThree =>
    intro v hlo hhi
    have hhalf := sqrt3_no_half hlo hhi
    obtain ⟨hle, hlt⟩ := sqrt3_floor v
    obtain ⟨hnearLo, hnearHi⟩ := sqrt3_nearest hhalf
    exact ⟨hle, hlt, hhalf, sqrt3_neg hhalf, hnearLo, hnearHi, sqrt3_bounds hlo hhi⟩
  case table => cases p <;> rfl
  case bounds =>
    intro hxlo hxhi hylo hyhi
    obtain ⟨hx, hx', hy, hy'⟩ := rotate_bounds (v := ⟨x, y⟩) hxlo hxhi hylo hyhi p
    refine ⟨hx, hx', hy, hy', ?_⟩
    rintro rfl
    exact rotate_l1_bounds (v := ⟨x, y⟩) hxlo hxhi hylo hyhi

end Sys2Proof.Machine


/-! PROOFS. The balancing round (04_the_balancing_round.md): START, the run state that a latch copies, and the completion
of a round whose selection gate was closed. -/

namespace Sys2Proof.Machine

/-! ### START (R59) -/

/-- Only Port A may start (R59, R170). -/
theorem execStart_rights {s : State} {p : Port} (h : s.takesRequest p = true) (hp : p ≠ .a) :
    execStart p s = .next (s.answering p .rights []) :=
  congrArg Host.Outcome.next (State.request_of_refused h (if_pos hp))

/-- A start puts the run state at AUTO, from OFF and from AUTO alike (R59). -/
theorem execStart_auto {s : State} (h : s.takesRequest .a = true) :
    execStart .a s =
      .next (({ s with engine := { s.engine with run := .auto } } : State).answering .a .ok []) :=
  congrArg Host.Outcome.next (State.request_of_okay h rfl)

/-! ### The run state at a latch (R65, R67) -/

theorem State.latchWindow_run (s : State) : s.latchWindow.engine.run = s.engine.run := by
  unfold State.latchWindow
  split <;> rfl

/-- Steps 1 to 3 of the latch keep the run state. -/
theorem State.latchCounted_run (s : State) : s.latchCounted.engine.run = s.engine.run := by
  have hround (t : State) : t.latchRound.engine.run = t.engine.run := rfl
  simp [State.latchCounted, State.latchWindow_run, hround]

/-- The working set that a latch makes holds the run state as it stands (R67). -/
theorem State.latch_work_run (s : State) : ∃ w, s.latch.engine.work = some w ∧ w.run = s.engine.run := by
  refine ⟨_, rfl, ?_⟩
  change ((s.latchCounted.latchHolds.latchQueue).mapConsumers Consumer.latched).engine.run = s.engine.run
  simp [State.latchCounted_run]

/-! ### A round latched in OFF (R69, R72, R73) -/

/-- In OFF the gate is closed by its first condition (R69). -/
theorem WorkingSet.gate_of_off {w : WorkingSet} (h : w.run = .off) : w.gate = some .off :=
  if_pos h

/-- A closed gate selects nothing (R69). -/
theorem WorkingSet.selection_of_closed {w : WorkingSet} {o : RoundOutcome} (h : w.gate = some o) :
    w.selection = ([], 0) := by
  simp [WorkingSet.selection, h]

/-- A closed gate gives the provisional outcome (R69). -/
theorem WorkingSet.provisional_of_closed {w : WorkingSet} {o : RoundOutcome} (h : w.gate = some o) :
    w.provisional = o := by
  simp [WorkingSet.provisional, h]

/-- A round latched in OFF has the outcome OFF, whatever the run state at its completion (R59, R73). -/
theorem WorkingSet.summary_outcome_of_off {w : WorkingSet} (h : w.run = .off) (run : RunState) (posted : Nat) :
    (w.summary run posted).outcome = .off := by
  simp [WorkingSet.summary, WorkingSet.provisional_of_closed (WorkingSet.gate_of_off h)]

/-- The post of an empty list appends nothing (R72). -/
@[simp] theorem State.post_nil (s : State) (round : RoundNo) : s.post round [] = (s, 0) := rfl

/-- The queue that a completion leaves is the one its post leaves. -/
theorem State.complete_queue (s : State) (w : WorkingSet) :
    (s.complete w).queue = (s.post w.round w.selection.1).1.queue := by
  unfold State.complete
  dsimp only
  split <;> rfl

/-- A completion stores the summary of its round, with the number of moves that its post appended (R73, R75). -/
theorem State.complete_summary (s : State) (w : WorkingSet) :
    (s.complete w).engine.summary = some (w.summary s.engine.run (s.post w.round w.selection.1).2) := by
  unfold State.complete
  dsimp only
  split <;> rfl

/-- The completion of the round in hand (R62). -/
theorem execCompletion_busy {s : State} {w : WorkingSet} (hheld : s.held = false) (hwork : s.engine.work = some w) :
    execCompletion s = .next (s.complete w) := by
  simp [execCompletion, hwork, State.event_of_true _ hheld]

/-! ### O19 -/

/-- Settles O19: the request's two outcomes, the run state that a latch copies, and the completion of a round whose gate
OFF has closed. -/
theorem startPutsThePartIntoAuto : Obligations.StartPutsThePartIntoAuto := by
  refine ⟨fun s p h => ⟨execStart_rights h, ?auto⟩, ?latch, ?completion⟩
  case auto =>
    rintro rfl
    exact execStart_auto h
  case latch =>
    intro s hheld hdue hfree
    obtain ⟨w, hwork, hrun⟩ := State.latch_work_run { s with engine := { s.engine with expiryDue := false } }
    exact ⟨_, w, execRoundTimerExpiry_latches hheld hdue hfree, hwork, hrun⟩
  case completion =>
    intro s w hheld hwork hoff
    have hpost : s.post w.round w.selection.1 = (s, 0) := by
      rw [WorkingSet.selection_of_closed (WorkingSet.gate_of_off hoff), State.post_nil]
    have hqueue := State.complete_queue s w
    have hsummary := State.complete_summary s w
    rw [hpost] at hqueue hsummary
    exact ⟨_, _, execCompletion_busy hheld hwork, hqueue, hsummary, WorkingSet.summary_outcome_of_off hoff .., rfl⟩

end Sys2Proof.Machine


/-! PROOFS. Bus scheduling and unit health (08_bus_scheduling_and_unit_health.md): the request QUERY UNIT. -/

namespace Sys2Proof.Machine

/-! ### QUERY UNIT (R150) -/

/-- A consumer number of 96 or more is out of range (R150). -/
theorem execQueryUnit_range {s : State} {p : Port} {n : Byte} (h : s.takesRequest p = true) (hn : 96 ≤ n.toNat) :
    execQueryUnit p n s = .next (s.answering p .range []) :=
  congrArg Host.Outcome.next (State.request_of_refused h (if_pos hn))

/-- A query of an absent record is refused (R150). -/
theorem execQueryUnit_absent {s : State} {p : Port} {n : Byte} (h : s.takesRequest p = true) (hn : n.toNat < 96)
    (hc : s.consumer? n.toNat = none) : execQueryUnit p n s = .next (s.answering p .absent []) :=
  congrArg Host.Outcome.next (State.request_of_refused h (by simp [Config.consumers, hn, hc]))

/-- A port whose slot already holds a query is busy (R150). -/
theorem execQueryUnit_busy {s : State} {p : Port} {n : Byte} {c : Consumer} (h : s.takesRequest p = true)
    (hn : n.toNat < 96) (hc : s.consumer? n.toNat = some c) (hslot : (s.arb.slots.get p).stage ≠ .idle) :
    execQueryUnit p n s = .next (s.answering p .busy []) :=
  congrArg Host.Outcome.next (State.request_of_refused h (by simp [Config.consumers, hn, hc, hslot]))

/-- A query that finds the port's slot IDLE waits there, behind every port that waits already, and keeps the result stored
in the slot (R149, R150). -/
theorem execQueryUnit_waits {s : State} {p : Port} {n : Byte} {c : Consumer} (h : s.takesRequest p = true)
    (hn : n.toNat < 96) (hc : s.consumer? n.toNat = some c) (hslot : (s.arb.slots.get p).stage = .idle) :
    execQueryUnit p n s = .next
      ({ s with arb :=
          { s.arb with
            slots := s.arb.slots.set p ⟨.waiting n.toNat, (s.arb.slots.get p).result⟩
            order := s.arb.order ++ [p] } }.answering p .ok []) :=
  congrArg Host.Outcome.next (State.request_of_okay h
    (by simp [Config.consumers, hn, hc, hslot, State.putSlot]))

/-! ### O30 -/

/-- Settles O30, answer by answer in the order of R150's checks. -/
theorem queryUnitWaitsInArrivalOrder : Obligations.QueryUnitWaitsInArrivalOrder := by
  intro s p n h
  refine ⟨execQueryUnit_range h, execQueryUnit_absent h, fun c hn hc => ⟨?busy, ?waits⟩⟩
  case busy => exact execQueryUnit_busy h hn hc
  case waits => exact execQueryUnit_waits h hn hc

end Sys2Proof.Machine



/-! PROOFS. The master ports (10_master_ports.md): CLEAR FLAGS, SET MASK, and the attention lines. -/

namespace Sys2Proof.Machine

/-! ### Flags in a flag set (R168, R173) -/

/-- Nine flags stand at nine bits (R173). -/
theorem Flag.bit_lt (f : Flag) : f.bit < 9 := by
  cases f <;> decide

/-- Every bit of a flag set is some flag's (R173). -/
theorem Flag.exists_bit : ∀ i < 9, ∃ f : Flag, f.bit = i
  | 0, _ => ⟨.round, rfl⟩
  | 1, _ => ⟨.journal, rfl⟩
  | 2, _ => ⟨.gap, rfl⟩
  | 3, _ => ⟨.mains, rfl⟩
  | 4, _ => ⟨.link, rfl⟩
  | 5, _ => ⟨.unplanned, rfl⟩
  | 6, _ => ⟨.mismatch, rfl⟩
  | 7, _ => ⟨.query, rfl⟩
  | 8, _ => ⟨.restarted, rfl⟩

/-- The flag set of one flag holds that flag and no other (R168). -/
theorem Flag.getLsbD_set (f g : Flag) : f.set.getLsbD g.bit = decide (g = f) := by
  cases f <;> cases g <;> rfl

/-- A flag set is not empty exactly when it holds a flag (R173). -/
theorem flags_ne_zero_iff (x : BitVec 9) : x ≠ 0 ↔ ∃ f : Flag, x.getLsbD f.bit = true := by
  constructor
  · intro hne
    by_contra! hnone
    refine hne (BitVec.eq_of_getLsbD_eq fun i hi => ?_)
    obtain ⟨f, rfl⟩ := Flag.exists_bit i hi
    simpa using hnone f
  · rintro ⟨f, hf⟩ rfl
    simp at hf

/-- A flag set as a port receives it names the same flags once it is cut to nine bits (R168). -/
theorem Flag.getLsbD_received (set : BitVec 16) (f : Flag) :
    (set.setWidth 9).getLsbD f.bit = set.getLsbD f.bit := by
  simp [f.bit_lt]

theorem flagsInRange_eq_false {set : BitVec 16} (h : 512 ≤ set.toNat) : flagsInRange set = false :=
  decide_eq_false (Nat.not_lt.2 h)

theorem flagsInRange_eq_true {set : BitVec 16} (h : set.toNat < 512) : flagsInRange set = true :=
  decide_eq_true h

/-! ### The flags of a port (R173) -/

@[simp] theorem State.raise_takesRequest (s : State) (p q : Port) (f : Flag) :
    (s.raise p f).takesRequest q = s.takesRequest q := by
  by_cases hq : q = p <;> simp [State.takesRequest, State.window, State.raise, hq]

/-- A cause sets its flag on its port, and there no other (R173). -/
theorem State.flagOn_raise (s : State) (p : Port) (f g : Flag) :
    (s.raise p f).flagOn p g = (s.flagOn p g || decide (g = f)) := by
  simp [State.flagOn, State.raise, PortState.raise, Flag.getLsbD_set]

/-- A cause for all ports sets its flag on each of them, and no other (R173). -/
theorem State.flagOn_raiseAll (s : State) (p : Port) (f g : Flag) :
    (s.raiseAll f).flagOn p g = (s.flagOn p g || decide (g = f)) := by
  simp [State.flagOn, State.raiseAll, PortState.raise, Flag.getLsbD_set]

@[simp] theorem State.setWindow_flagOn (s : State) (p q : Port) (w : Window) (f : Flag) :
    (s.setWindow q w).flagOn p f = s.flagOn p f := by
  by_cases hp : p = q <;> simp [State.flagOn, State.setWindow, hp]

@[simp] theorem State.setWindow_mask (s : State) (p q : Port) (w : Window) :
    ((s.setWindow q w).ports.get p).mask = (s.ports.get p).mask := by
  by_cases hp : p = q <;> simp [State.setWindow, hp]

@[simp] theorem State.raiseAll_mask (s : State) (p : Port) (f : Flag) :
    ((s.raiseAll f).ports.get p).mask = (s.ports.get p).mask := by
  simp [State.raiseAll]

/-! ### The attention line (R176) -/

/-- The line of a part that is not held is high exactly while a set flag is in the mask (R176). -/
theorem State.attention_iff {s : State} (h : s.held = false) (p : Port) :
    s.attention p = true ↔ ∃ f : Flag, s.flagOn p f = true ∧ (s.ports.get p).mask.getLsbD f.bit = true := by
  have hset := flags_ne_zero_iff ((s.ports.get p).flags &&& (s.ports.get p).mask)
  simpa [State.attention, State.flagOn, h] using hset

/-- A cause for all ports raises the line of a port whose mask includes its flag, and of no other (R176). -/
theorem State.attention_raiseAll {s : State} (h : s.held = false) (p : Port) (f : Flag) :
    (s.raiseAll f).attention p = (s.attention p || (s.ports.get p).mask.getLsbD f.bit) := by
  have hafter := State.attention_iff (s := s.raiseAll f) h p
  simp only [State.flagOn_raiseAll, State.raiseAll_mask, Bool.or_eq_true, decide_eq_true_eq, or_and_right,
    exists_or, exists_eq_left] at hafter
  rw [Bool.eq_iff_iff, hafter, Bool.or_eq_true, State.attention_iff h]

/-- The line is driven whatever the state of the windows (R176). -/
theorem State.attention_setWindow {s : State} (h : s.held = false) (p q : Port) (w : Window) :
    (s.setWindow q w).attention p = s.attention p := by
  rw [Bool.eq_iff_iff, State.attention_iff (s := s.setWindow q w) h, State.attention_iff h]
  simp

/-! ### CLEAR FLAGS (R174) -/

/-- A flag set with a bit above 8 is out of range, and nothing is cleared (R174). -/
theorem execClearFlags_range {s : State} {p : Port} {set : BitVec 16} (h : s.takesRequest p = true)
    (hset : 512 ≤ set.toNat) : execClearFlags p set s = .next (s.answering p .range []) :=
  congrArg Host.Outcome.next (State.request_of_refused h (by simp [flagsInRange_eq_false hset]))

/-- The named flags of the sending port become clear, and its flags are answered as they then stand (R174). -/
theorem execClearFlags_cleared {s : State} {p : Port} {set : BitVec 16} (h : s.takesRequest p = true)
    (hset : set.toNat < 512) :
    execClearFlags p set s = .next
      ((s.putPort p ((s.ports.get p).clear set)).answering p .ok (u2 ((s.ports.get p).clear set).flags.toNat)) :=
  congrArg Host.Outcome.next (State.request_of_okay h (by simp [flagsInRange_eq_true hset]))

/-- After a clearing, a flag is on exactly when it was on and is not named (R174). -/
theorem State.flagOn_cleared (s : State) (p : Port) (set : BitVec 16) (r : Result) (fields : List Byte) (f : Flag) :
    ((s.putPort p ((s.ports.get p).clear set)).answering p r fields).flagOn p f =
      (s.flagOn p f && !set.getLsbD f.bit) := by
  simp [State.answering, State.flagOn, State.setWindow, State.putPort, PortState.clear, f.bit_lt]

/-- Settles O14: the two outcomes of R174, and both orders of a clearing and a cause of a named flag. -/
theorem clearFlagsClearsTheNamedFlags : Obligations.ClearFlagsClearsTheNamedFlags := by
  intro s p set h
  refine ⟨execClearFlags_range h, execClearFlags_cleared h, fun f hset hnamed => ⟨?causeFirst, ?clearFirst⟩⟩
  case causeFirst =>
    have htakes : (s.raise p f).takesRequest p = true := (s.raise_takesRequest p p f).trans h
    exact ⟨_, execClearFlags_cleared htakes hset, by simp [State.flagOn_cleared, hnamed]⟩
  case clearFirst =>
    exact ⟨_, execClearFlags_cleared h hset, by simp [State.flagOn_raise]⟩

/-! ### SET MASK (R175) -/

/-- A mask with a bit above 8 is out of range, and the mask is unchanged (R175). -/
theorem execSetMask_range {s : State} {p : Port} {set : BitVec 16} (h : s.takesRequest p = true)
    (hset : 512 ≤ set.toNat) : execSetMask p set s = .next (s.answering p .range []) :=
  congrArg Host.Outcome.next (State.request_of_refused h (by simp [flagsInRange_eq_false hset]))

/-- The set becomes the sending port's mask, and is answered as it was sent (R175). -/
theorem execSetMask_stored {s : State} {p : Port} {set : BitVec 16} (h : s.takesRequest p = true)
    (hset : set.toNat < 512) :
    execSetMask p set s = .next
      ((s.putPort p ((s.ports.get p).withMask set)).answering p .ok (u2 set.toNat)) := by
  have hkept : (set.setWidth 9).toNat = set.toNat := by
    rw [BitVec.toNat_setWidth, Nat.mod_eq_of_lt hset]
  exact congrArg Host.Outcome.next (State.request_of_okay h
    (by simp only [flagsInRange_eq_true hset, PortState.withMask, hkept]; rfl))

/-- A new mask changes no flag, and decides the port's line from then on (R175, R176). -/
theorem State.attention_masked {s : State} (h : s.held = false) (p : Port) (set : BitVec 16) (r : Result)
    (fields : List Byte) :
    ((s.putPort p ((s.ports.get p).withMask set)).answering p r fields).attention p = true ↔
      ∃ f : Flag, s.flagOn p f = true ∧ set.getLsbD f.bit = true := by
  have hflags (f : Flag) : (s.putPort p ((s.ports.get p).withMask set)).flagOn p f = s.flagOn p f := by
    simp [State.flagOn, State.putPort, PortState.withMask]
  have hmask : ((s.putPort p ((s.ports.get p).withMask set)).ports.get p).mask = set.setWidth 9 := by
    simp [State.putPort, PortState.withMask]
  have hheld : (s.putPort p ((s.ports.get p).withMask set)).held = false := h
  rw [State.answering, State.attention_setWindow hheld, State.attention_iff hheld]
  simp only [hflags, hmask, Flag.getLsbD_received]

/-- Settles O15: the two outcomes of R175, and R176's line as a mask, a cause for all ports and a window leave it. -/
theorem setMaskDrivesTheAttentionLine : Obligations.SetMaskDrivesTheAttentionLine := by
  refine ⟨fun s p set h => ⟨execSetMask_range h, fun hset => ?stored⟩, fun s p q f w h => ?line⟩
  case stored =>
    exact ⟨_, execSetMask_stored h hset, rfl, State.attention_masked (State.held_of_takesRequest h) p set ..⟩
  case line =>
    exact ⟨State.attention_iff h p, State.attention_raiseAll h p f, State.attention_setWindow h p q w⟩

end Sys2Proof.Machine


/-! PROOFS. What every step keeps: how an invariant of all commands is one of all steps, and the change journal's
(09_change_journal.md). -/

namespace Sys2Proof.Machine

/-! ### From commands to steps -/

/-- A request keeps an invariant that neither an answer nor the request's judge breaks. -/
theorem State.request_preserves {P : State → Prop} {s : State} {p : Port} {judge : State → State × Answer} (hs : P s)
    (hanswer : ∀ t w, P t → P (t.setWindow p w)) (hjudge : s.held = false → P (judge s).1) :
    P (s.request p judge) := by
  unfold State.request
  split
  · next h => exact hanswer _ _ (hjudge (State.held_of_takesRequest h))
  · exact hs

/-- An event keeps an invariant that its effect keeps where its condition holds. -/
theorem State.event_preserves {P : State → Prop} {s : State} {cond : Bool} {effect : State → State} (hs : P s)
    (heffect : s.held = false → cond = true → P (effect s)) : P (s.event cond effect) := by
  unfold State.event
  split
  · next h =>
    simp only [Bool.and_eq_true, Bool.not_eq_true'] at h
    exact heffect h.1 h.2
  · exact hs

/-- An invariant that no command breaks, and that does not read the waiting commands, holds after every step. -/
theorem step_preserves {P : State → Prop} (hpending : ∀ s rest, P s → P { s with pending := rest })
    (hexec : ∀ i s t, P s → exec i s = .next t → P t) {s t : State} (hs : P s) (h : step s = .next t) : P t := by
  unfold step at h
  split at h
  · cases h
    exact hs
  · exact hexec _ _ _ (hpending _ _ hs) h

/-! ### Journal writes (R159, R161, R162) -/

/-- A sound journal, entry by entry and port by port. -/
theorem Journal.wf_iff (j : Journal) :
    j.wf ↔ j.ring.length ≤ 32 ∧
      (∀ (i : Nat) (h : i < j.ring.length), j.ring[i].seq = j.next - BitVec.ofNat 16 (j.ring.length - i)) ∧
      ∀ p, j.unread p ≤ j.ring.length := by
  refine and_congr_right fun _ => and_congr ?_ ?_
  · simp [List.ext_getElem_iff]
  · constructor
    · rintro ⟨ha, hb, hc⟩ p
      cases p <;> assumption
    · exact fun h => ⟨h .a, h .b, h .c⟩

/-- The number of an entry, counted back from the next one, after the next number has moved on. -/
theorem seq_back (next : Seq) (k : Nat) :
    next - BitVec.ofNat 16 k = next + 1 - BitVec.ofNat 16 (k + 1) := by
  rw [BitVec.ofNat_add]
  bv_omega

/-- A port that has not read everything the ring could hold has one entry more unread when one is written. -/
theorem unread_succ {next cursor : Seq} (h : (next - cursor).toNat < 32) :
    (next + 1 - cursor).toNat = (next - cursor).toNat + 1 := by
  bv_omega

/-- Appending with a free place in the ring keeps the journal sound (R159, R160). -/
theorem Journal.wf_append {j : Journal} (hj : j.wf) (hroom : j.ring.length < 32) {e : Entry} (he : e.seq = j.next) :
    Journal.wf { j with ring := j.ring ++ [e], next := j.next + 1 } := by
  rw [Journal.wf_iff] at hj ⊢
  obtain ⟨-, hseq, hunread⟩ := hj
  refine ⟨by simpa using hroom, fun i hi => ?_, fun p => ?_⟩
  · simp only [List.length_append, List.length_cons, List.length_nil, Nat.zero_add] at hi ⊢
    rcases Nat.lt_succ_iff_lt_or_eq.1 hi with hi | rfl
    · rw [List.getElem_append_left hi, hseq i hi, Nat.sub_add_comm hi.le, seq_back]
    · simp only [List.getElem_append_right (Nat.le_refl _), Nat.sub_self, List.getElem_singleton, he]
      simp
  · have hold := hunread p
    have hnew := unread_succ (Nat.lt_of_le_of_lt hold hroom)
    simp only [Journal.unread, List.length_append, List.length_singleton] at hold ⊢
    omega

/-- Appending to a full ring keeps the journal sound once the oldest entry has gone and the cursors that stood on it have
moved on (R161). -/
theorem Journal.wf_append_full {j : Journal} (hj : j.wf) {oldest : Entry} {rest : List Entry}
    (hring : j.ring = oldest :: rest) (hfull : 32 ≤ j.ring.length) {e : Entry} (he : e.seq = j.next)
    {cursors : PerPort Seq} (hcursors : ∀ p, cursors.get p =
      if j.cursors.get p = oldest.seq then oldest.seq + 1 else j.cursors.get p) :
    Journal.wf { ring := rest ++ [e], next := j.next + 1, cursors := cursors } := by
  rw [Journal.wf_iff] at hj ⊢
  obtain ⟨hlen, hseq, hunread⟩ := hj
  have hrest : rest.length = 31 := by
    rw [hring, List.length_cons] at hlen hfull
    omega
  have hold : oldest.seq = j.next - 32 := by
    have h0 := hseq 0 (by omega)
    simpa [hring, hrest] using h0
  simp only [hring] at hseq
  refine ⟨by simp [hrest], fun i hi => ?_, fun p => ?_⟩
  · simp only [List.length_append, List.length_cons, List.length_nil, Nat.zero_add, hrest] at hi ⊢
    rcases Nat.lt_succ_iff_lt_or_eq.1 hi with hi | rfl
    · have hnext := hseq (i + 1) (by rw [List.length_cons]; omega)
      simp only [List.getElem_cons_succ, List.length_cons, hrest] at hnext
      rw [List.getElem_append_left (by omega), hnext, show 31 + 1 - i = 31 + 1 - (i + 1) + 1 by omega, seq_back]
    · rw [List.getElem_append_right (by omega)]
      simp [he]
  · have hbound := hunread p
    simp only [Journal.unread, hring, List.length_cons, hrest] at hbound
    simp only [Journal.unread, List.length_append, hrest, List.length_singleton, hcursors, hold]
    split
    · bv_omega
    · next hne =>
      bv_omega

theorem State.writeEntry_journalWf {s : State} (h : s.journal.wf) (n : Nat) (b : Option Phase) (a : Phase)
    (k : EntryKind) : (s.writeEntry n b a k).journal.wf := by
  rw [State.writeEntry_eq]
  split
  · next hfull =>
    obtain ⟨oldest, rest, hring⟩ : ∃ oldest rest, s.journal.ring = oldest :: rest :=
      List.exists_cons_of_length_pos (by omega)
    have hcursor := s.evict_cursor
    have hevict : (s.evict.append n b a k).journal =
        ⟨rest ++ [⟨s.journal.next, n, b, a, s.engine.round, k⟩], s.journal.next + 1, s.evict.journal.cursors⟩ := by
      simp [State.append, State.raiseAll, State.evict_ring, hring]
    rw [hevict]
    exact Journal.wf_append_full h hring hfull rfl (by simpa [hring] using hcursor)
  · next hroom => exact Journal.wf_append h (by omega) rfl

theorem State.writeObserved_journalWf {s : State} (h : s.journal.wf) (n : Nat) (b : Option Phase) (a : Phase)
    (c : Cause) : (s.writeObserved n b a c).journal.wf := by
  unfold State.writeObserved
  dsimp only
  split <;> exact State.writeEntry_journalWf h ..

theorem State.writeRemoved_journalWf {s : State} (h : s.journal.wf) (rs : List MoveRecord) (o : Outcome) :
    (s.writeRemoved rs o).journal.wf := by
  induction rs generalizing s with
  | nil => exact h
  | cons r rs ih => exact ih (State.writeEntry_journalWf h ..)

theorem State.settleHead_journalWf {s : State} (h : s.journal.wf) : s.settleHead.journal.wf := by
  unfold State.settleHead
  exact State.writeRemoved_journalWf (by exact h) ..

theorem State.removeQueued_journalWf {s : State} (h : s.journal.wf) (which : MoveRecord → Bool) (o : Outcome) :
    (s.removeQueued which o).journal.wf := by
  unfold State.removeQueued
  exact State.settleHead_journalWf (State.writeRemoved_journalWf (by exact h) ..)

/-! ### The results of transactions on the journal -/

theorem State.endMove_journalWf {s : State} (h : s.journal.wf) (r : MoveRecord) (o : Outcome) (v : Option Refused)
    (map : Consumer → Consumer) (found : Option Phase) : (s.endMove r o v map found).journal.wf := by
  have hend : (((s.withRecords s.queue.records.tail).writeMoveEnd r o v).updateConsumer r.consumer map).journal.wf := by
    rw [(State.updateConsumer_frame ..).2.2.2.2.2.2.2.2.2.2.1]
    unfold State.writeMoveEnd
    exact State.writeEntry_journalWf (by exact h) ..
  refine State.settleHead_journalWf ?_
  cases found with
  | none => exact hend
  | some p => exact State.writeObserved_journalWf hend ..

/-- The record of a unit after a good STATE reply: the reading and the status, and the phase by the record's phase state
(R3, R6 to R9). -/
def Consumer.heard (c : Consumer) (r : StateReply) (round : RoundNo) : Consumer :=
  match c.phaseState, r.phase with
  | .moving, _ => c.takeReading r round
  | .confirmed, none => (c.takeReading r round).lose
  | .confirmed, some p =>
    if c.recorded = some p then c.takeReading r round else (c.takeReading r round).confirm p
  | _, some p => (c.takeReading r round).confirm p
  | _, none => c.takeReading r round

/-- All that a good STATE reply can do: nothing to an absent record; else the record is heard, an OBSERVED entry may be
written, and the head is judged (R3, R6 to R10, R87). -/
theorem State.applyReply_cases (s : State) (n : Nat) (r : StateReply) :
    (s.consumer? n = none ∧ s.applyReply n r = s) ∨
    ∃ c, s.consumer? n = some c ∧
      (s.applyReply n r = (s.putConsumer n (some (c.heard r s.engine.round))).settleHead ∨
      ∃ b p cause, s.applyReply n r =
        ((s.putConsumer n (some (c.heard r s.engine.round))).writeObserved n b p cause).settleHead) := by
  cases hc : s.consumer? n with
  | none => exact .inl ⟨rfl, by simp [State.applyReply, hc]⟩
  | some c =>
    refine .inr ⟨c, rfl, ?_⟩
    rcases hst : c.phaseState with _ | _ | _ | _ <;> rcases hp : r.phase with _ | p <;>
      simp only [State.applyReply, hc, hst, Consumer.heard, hp, true_or]
    case confirmed.some | uncertain.some =>
      split
      · exact .inl rfl
      · exact .inr ⟨_, _, _, rfl⟩
    case unknown.some => exact .inr ⟨_, _, _, rfl⟩

/-- What a step of the head record's own stage keeps: the move as planned and a sound record, which is not QUEUED (R80). -/
structure MoveRecord.Follows (r r' : MoveRecord) : Prop where
  plan : r'.consumer = r.consumer ∧ r'.source = r.source ∧ r'.target = r.target ∧ r'.origin = r.origin
  state : r'.state ≠ .queued
  wf : r.wf → r'.wf

/-- What the map's side of an ended move keeps: the installed values, the hold and the readings; the consumer is CONFIRMED
or UNCERTAIN after it (R11, R12). -/
structure EndsMove (map : Consumer → Consumer) : Prop where
  installed : ∀ c, (map c).address = c.address ∧ (map c).segment = c.segment ∧ (map c).allowed = c.allowed ∧
    (map c).cost = c.cost
  hold : ∀ c, (map c).hold = c.hold
  readings : ∀ c, (map c).frozen = c.frozen ∧ (map c).reading = c.reading
  settled : ∀ c, (map c).phaseState = .confirmed ∨ (map c).phaseState = .uncertain
  wf : ∀ c, c.wf → c.recorded ≠ none → (map c).wf

theorem EndsMove.confirm (p : Phase) : EndsMove (·.confirm p) where
  installed _ := ⟨rfl, rfl, rfl, rfl⟩
  hold _ := rfl
  readings _ := ⟨rfl, rfl⟩
  settled _ := .inl rfl
  wf c := by simp +contextual [Consumer.wf, Consumer.confirm]

theorem EndsMove.lose : EndsMove Consumer.lose where
  installed _ := ⟨rfl, rfl, rfl, rfl⟩
  hold _ := rfl
  readings _ := ⟨rfl, rfl⟩
  settled _ := .inr rfl
  wf c := by simp +contextual [Consumer.wf, Consumer.lose]

theorem EndsMove.wear {map : Consumer → Consumer} (h : EndsMove map) (round : RoundNo) :
    EndsMove (fun c => (map c).wear round) where
  installed := h.installed
  hold := h.hold
  readings := h.readings
  settled := h.settled
  wf c hc hr := by
    obtain ⟨hnone, hrecheck, htried, -, hhealth⟩ := h.wf c hc hr
    exact ⟨hnone, hrecheck, htried, Nat.min_le_left .., hhealth⟩

theorem EndsMove.lockout (p : Phase) : EndsMove (fun c => { c.confirm p with lockout := true }) where
  installed _ := ⟨rfl, rfl, rfl, rfl⟩
  hold _ := rfl
  readings _ := ⟨rfl, rfl⟩
  settled _ := .inl rfl
  wf := (EndsMove.confirm p).wf

theorem MoveRecord.follows_toSwitching {r : MoveRecord} (hstate : r.state = .issuing) : r.Follows r.toSwitching where
  plan := ⟨rfl, rfl, rfl, rfl⟩
  state := nofun
  wf h := by
    simp only [MoveRecord.wf, MoveRecord.toSwitching, hstate] at h ⊢
    simp_all

theorem MoveRecord.follows_waiting {r : MoveRecord} (hstate : r.state ≠ .queued) (ticks : Nat)
    (hissue : r.state = .issuing → r.issueAttempts < 3) (hconfirm : r.state = .confirming → r.confirmAttempts < 3) :
    r.Follows (r.waiting ticks) where
  plan := ⟨rfl, rfl, rfl, rfl⟩
  state := hstate
  wf h := by
    simp only [MoveRecord.wf, MoveRecord.waiting] at h ⊢
    simp_all

theorem MoveRecord.follows_due {r : MoveRecord} (hstate : r.state ≠ .queued)
    (hissue : r.state = .issuing → r.issueAttempts < 3) (hconfirm : r.state = .confirming → r.confirmAttempts < 3) :
    r.Follows r.due where
  plan := ⟨rfl, rfl, rfl, rfl⟩
  state := hstate
  wf h := by
    simp only [MoveRecord.wf, MoveRecord.due] at h ⊢
    simp_all

/-- A failed MOVE attempt leaves the record at the head, waiting or in SWITCHING (R92). -/
theorem State.attemptFailed_follows (s : State) {r : MoveRecord} (hstate : r.state = .issuing) :
    ∃ r', r.Follows r' ∧ s.attemptFailed r = s.putHead r' := by
  refine ⟨_, ?_, rfl⟩
  split
  · next h =>
    simp only [Bool.and_eq_true, decide_eq_true_eq] at h
    exact MoveRecord.follows_waiting (by simp [hstate]) 2 (fun _ => h.1) (by simp [hstate])
  · exact MoveRecord.follows_toSwitching hstate

/-- A refusal ends the head record (R12, R91). -/
theorem State.refusedMove_ends (s : State) (r : MoveRecord) (v : Refused) (reported : Reported) :
    ∃ o w map found, EndsMove map ∧ s.refusedMove r v reported = s.endMove r o w map found := by
  cases v with
  | lockout => exact ⟨.refused, some .lockout, _, none, EndsMove.lockout r.source, by cases reported <;> rfl⟩
  | novolt => exact ⟨.refused, some .novolt, _, none, EndsMove.confirm r.source, by cases reported <;> rfl⟩
  | phase =>
    cases reported with
    | none => exact ⟨.refused, some .phase, _, none, EndsMove.lose, rfl⟩
    | some p => exact ⟨_, _, _, _, EndsMove.confirm p, rfl⟩

/-- A LOST record is ended (R97). -/
theorem State.lost_ends (s : State) (r : MoveRecord) :
    ∃ o w map found, EndsMove map ∧ s.lost r = s.endMove r o w map found :=
  ⟨_, _, _, _, EndsMove.lose.wear _, rfl⟩

/-- A record whose unit is seen on a phase is ended (R11, R96). -/
theorem State.confirmed_ends (s : State) (r : MoveRecord) (p : Phase) :
    ∃ o w map found, EndsMove map ∧ s.confirmed r p = s.endMove r o w map found := by
  unfold State.confirmed
  split
  · exact ⟨_, _, _, _, (EndsMove.confirm _).wear _, rfl⟩
  · split <;> exact ⟨_, _, _, _, EndsMove.confirm _, rfl⟩

/-- An attempt that is offered again is not counted (R93, R95). -/
theorem MoveRecord.follows_uncounted {r : MoveRecord} (hstate : r.state ≠ .queued) (issue confirm : Nat)
    (hissue : issue ≤ r.issueAttempts) (hconfirm : confirm ≤ r.confirmAttempts) :
    r.Follows { r with issueAttempts := issue, confirmAttempts := confirm } where
  plan := ⟨rfl, rfl, rfl, rfl⟩
  state := hstate
  wf h := by
    obtain ⟨hphases, hissue3, hconfirm3, -, hdead, hbefore, hdue, hfew⟩ := h
    refine ⟨hphases, by dsimp only; omega, by dsimp only; omega, fun h => absurd h hstate, hdead,
      fun h => ?_, hdue, fun h => ?_⟩
    · have := hbefore h
      dsimp only
      omega
    · obtain ⟨hi, hc⟩ := hfew h
      exact ⟨fun h => Nat.lt_of_le_of_lt hissue (hi h), fun h => Nat.lt_of_le_of_lt hconfirm (hc h)⟩

theorem MoveRecord.Follows.trans {a b c : MoveRecord} (hab : a.Follows b) (hbc : b.Follows c) : a.Follows c where
  plan := by
    obtain ⟨h1, h2, h3, h4⟩ := hab.plan
    obtain ⟨k1, k2, k3, k4⟩ := hbc.plan
    exact ⟨k1.trans h1, k2.trans h2, k3.trans h3, k4.trans h4⟩
  state := hbc.state
  wf h := hbc.wf (hab.wf h)

/-- A MOVE attempt that is offered again is due, or the record goes to SWITCHING (R93). -/
theorem State.repeatOrSwitch_follows (s : State) {r : MoveRecord} (hstate : r.state = .issuing) :
    ∃ r', r.Follows r' ∧ s.repeatOrSwitch { r with issueAttempts := r.issueAttempts - 1 } = s.putHead r' := by
  refine ⟨_, ⟨?plan, ?state, fun h => ?wf⟩, rfl⟩
  case plan => split <;> exact ⟨rfl, rfl, rfl, rfl⟩
  case state => split <;> simp [MoveRecord.due, MoveRecord.toSwitching, hstate]
  case wf =>
    have hqueued : r.state ≠ .queued := by simp [hstate]
    have hcounted := MoveRecord.follows_uncounted hqueued (r.issueAttempts - 1) r.confirmAttempts (Nat.sub_le ..) (Nat.le_refl _)
    have hissue : r.issueAttempts ≤ 3 := h.2.1
    split
    · exact (hcounted.trans (MoveRecord.follows_due hqueued (fun _ => by dsimp only; omega) (by simp [hstate]))).wf h
    · exact (hcounted.trans (MoveRecord.follows_toSwitching hstate)).wf h

/-- All that the result of a MOVE attempt can do to the record in ISSUING: it stays at the head, or it ends (R90 to R93). -/
theorem State.issueResult_cases (s : State) {r : MoveRecord} (hstate : r.state = .issuing) (res : TxnResult) :
    (∃ r', r.Follows r' ∧ s.issueResult r res = s.putHead r') ∨
    ∃ o w map found, EndsMove map ∧ s.issueResult r res = s.endMove r o w map found := by
  cases res with
  | state | failed => exact .inl (s.attemptFailed_follows hstate)
  | abandoned => exact .inl (s.repeatOrSwitch_follows hstate)
  | answer tag v reported =>
    by_cases htag : r.tag = tag
    · simp only [State.issueResult, if_pos htag]
      cases v with
      | accept => exact .inl ⟨_, MoveRecord.follows_toSwitching hstate, rfl⟩
      | busy => exact .inl (s.attemptFailed_follows hstate)
      | refuses w => exact .inr (s.refusedMove_ends r w reported)
    · simp only [State.issueResult, if_neg htag]
      exact .inl (s.attemptFailed_follows hstate)

/-- A confirm attempt without a phase leaves the record at the head, or ends it LOST (R97). -/
theorem State.confirmFailed_cases (s : State) {r : MoveRecord} (hstate : r.state = .confirming) :
    (∃ r', r.Follows r' ∧ s.confirmFailed r = s.putHead r') ∨
    ∃ o w map found, EndsMove map ∧ s.confirmFailed r = s.endMove r o w map found := by
  unfold State.confirmFailed
  split
  · next h => exact .inl ⟨_, MoveRecord.follows_waiting (by simp [hstate]) 5 (by simp [hstate]) (fun _ => h), rfl⟩
  · exact .inr (s.lost_ends r)

/-- All that the result of a confirm poll can do to the record in CONFIRMING: it stays at the head, or it ends (R95 to
R97). -/
theorem State.confirmResult_cases (s : State) {r : MoveRecord} (hstate : r.state = .confirming) (res : TxnResult) :
    (∃ r', r.Follows r' ∧ s.confirmResult r res = s.putHead r') ∨
    ∃ o w map found, EndsMove map ∧ s.confirmResult r res = s.endMove r o w map found := by
  have hqueued : r.state ≠ .queued := by simp [hstate]
  rcases res with ⟨_ | p, _, _, _, _⟩ | _ | _ | _
  · exact s.confirmFailed_cases hstate
  · exact .inr (s.confirmed_ends r p)
  · exact s.confirmFailed_cases hstate
  · exact s.confirmFailed_cases hstate
  · refine .inl ⟨{ r with confirmAttempts := r.confirmAttempts - 1 }.due, ⟨⟨rfl, rfl, rfl, rfl⟩, hqueued, fun h => ?_⟩, rfl⟩
    have hconfirm : r.confirmAttempts ≤ 3 := h.2.2.1
    exact ((MoveRecord.follows_uncounted hqueued r.issueAttempts (r.confirmAttempts - 1) (Nat.le_refl _)
      (Nat.sub_le ..)).trans (MoveRecord.follows_due hqueued (by simp [hstate]) (fun _ => by dsimp only; omega))).wf h

/-- All that a result can do in its own class: nothing; a step or the end of the head record in flight; a tried flag cleared;
a query's slot; the sweep pointer set back (R90 to R97, R147, R148, R151). -/
theorem State.resultOnClass_cases (s : State) (t : Txn) (res : TxnResult) :
    s.resultOnClass t res = s ∨
    (∃ r, s.headMove = some r ∧ r.state ≠ .queued ∧
      ((∃ r', r.Follows r' ∧ s.resultOnClass t res = s.putHead r') ∨
      ∃ o w map found, EndsMove map ∧ s.resultOnClass t res = s.endMove r o w map found)) ∨
    s.resultOnClass t res = s.updateConsumer t.consumer (fun c => { c with tried := false }) ∨
    (∃ p, t.cls = .query ∧ t.port = some p ∧ s.resultOnClass t res = s.queryResult t p res) ∨
    (t.cls = .sweep ∧ s.resultOnClass t res = { s with arb := { s.arb with pointer := t.consumer } }) := by
  cases hcls : t.cls <;> simp only [State.resultOnClass, hcls]
  case issue =>
    cases hhead : s.headMove with
    | none => exact .inl rfl
    | some r =>
      dsimp only
      split
      · next hstate => exact .inr (.inl ⟨r, rfl, by simp [hstate], s.issueResult_cases hstate res⟩)
      · exact .inl rfl
  case confirm =>
    cases hhead : s.headMove with
    | none => exact .inl rfl
    | some r =>
      dsimp only
      split
      · next hstate => exact .inr (.inl ⟨r, rfl, by simp [hstate], s.confirmResult_cases hstate res⟩)
      · exact .inl rfl
  case recheck =>
    split
    · exact .inr (.inr (.inl rfl))
    · exact .inl rfl
  case query =>
    cases hport : t.port with
    | none => exact .inl rfl
    | some p => exact .inr (.inr (.inr (.inl ⟨p, trivial, rfl, rfl⟩)))
  case sweep =>
    split
    · exact .inr (.inr (.inr (.inr ⟨trivial, rfl⟩)))
    · exact .inl rfl

/-- All that a result can do to the record of its unit: nothing; the health score; or the score, then a good STATE reply
(R145). -/
theorem State.resultOnRecord_cases (s : State) (t : Txn) (res : TxnResult) :
    s.resultOnRecord t res = s ∨ (∃ good, s.resultOnRecord t res = s.scoreHealth t.consumer good) ∨
    ∃ r, res = .state r ∧ s.resultOnRecord t res = (s.scoreHealth t.consumer true).applyReply t.consumer r := by
  unfold State.resultOnRecord
  split
  · cases res with
    | state r => exact .inr (.inr ⟨r, rfl, rfl⟩)
    | answer | failed => exact .inr (.inl ⟨_, rfl⟩)
    | abandoned => exact .inl rfl
  · exact .inl rfl

theorem State.applyReply_journalWf {s : State} (h : s.journal.wf) (n : Nat) (r : StateReply) :
    (s.applyReply n r).journal.wf := by
  obtain ⟨-, he⟩ | ⟨c, -, he | ⟨b, p, cause, he⟩⟩ := s.applyReply_cases n r <;> rw [he]
  · exact h
  · exact State.settleHead_journalWf (by exact h)
  · exact State.settleHead_journalWf (State.writeObserved_journalWf (by exact h) ..)

theorem State.resultOnRecord_journalWf {s : State} (h : s.journal.wf) (t : Txn) (res : TxnResult) :
    (s.resultOnRecord t res).journal.wf := by
  obtain he | ⟨good, he⟩ | ⟨r, -, he⟩ := s.resultOnRecord_cases t res <;> rw [he]
  · exact h
  · simpa using h
  · exact State.applyReply_journalWf (by simpa using h) ..

theorem State.result_journalWf {s : State} (h : s.journal.wf) (t : Txn) (res : TxnResult) :
    (s.result t res).journal.wf := by
  have hrec := State.resultOnRecord_journalWf h t res
  unfold State.result
  obtain he | ⟨r, -, -, ⟨r', -, he⟩ | ⟨o, w, map, found, -, he⟩⟩ | he | ⟨p, -, -, he⟩ | ⟨-, he⟩ :=
    (s.resultOnRecord t res).resultOnClass_cases t res <;> rw [he]
  · exact hrec
  · exact hrec
  · exact State.endMove_journalWf hrec ..
  · simpa using hrec
  · simpa using hrec
  · exact hrec


/-! ### The readings of a reply (R133) -/

/-- A result whose reading, if it brings one, is within ±1000 dA (R133). -/
def TxnResult.InRange : TxnResult → Prop
  | .state r => r.value.within 1000
  | _ => True

theorem clampInt_bounds {bound : Int} (h : 0 ≤ bound) (v : Int) :
    -bound ≤ clampInt bound v ∧ clampInt bound v ≤ bound := by
  unfold clampInt
  split
  · omega
  · split <;> omega

/-- What the reply tests hand on is in range: a STATE's X and Y have been clamped (R133). -/
theorem replyResult_inRange {t : Txn} {cs : List RxChar} {res : TxnResult} (h : replyResult t cs = some res) :
    res.InRange := by
  cases res with
  | state r =>
    obtain ⟨bytes, hr⟩ : ∃ bytes, decodeState bytes = some r := by
      unfold replyResult at h
      split at h
      case h_4 bytes _ =>
        split at h
        · simp only [decodeAnswer] at h
          split at h <;> simp at h
        · exact ⟨bytes, by simpa using h⟩
      all_goals simp at h
    simp only [decodeState] at hr
    split at hr
    · cases hr
      exact ⟨clampInt_bounds (by decide) _, clampInt_bounds (by decide) _⟩
    · cases hr
  | answer | failed | abandoned => trivial

/-! ### The field bus, for an invariant that does not read the link -/

section
variable {P : State → Prop} (hfbc : ∀ s f, P s → P { s with fbc := f })
  (hresult : ∀ s t res, res.InRange → P s → P (State.result s t res))

include hfbc in
theorem State.spaceAt_preserves {s : State} (h : P s) (m : Time) : P (s.spaceAt m) := by
  rcases hlink : s.fbc.link with _ | _ | (_ | _ | _ | _ | _) <;> simp only [State.spaceAt, hlink]
  case joining | online.free | online.quiet => exact hfbc _ _ h
  all_goals exact h

include hfbc in
theorem State.spaceNow_preserves {s : State} (h : P s) : P s.spaceNow := by
  unfold State.spaceNow
  split
  · split
    · exact hfbc _ _ h
    · exact h
  · exact State.spaceAt_preserves hfbc h _

include hfbc hresult in
theorem State.endTxn_preserves {s : State} (h : P s) (t : Txn) {res : TxnResult} (hres : res.InRange) (frx : Line) :
    P ((s.setFrx frx).endTxn t res) :=
  hresult _ _ _ hres (hfbc _ _ (hfbc _ _ h))

include hfbc hresult in
theorem State.receive_preserves {s : State} (h : P s) (start : Time) (fits : Bool) (cs : List RxChar) :
    P (s.receive start fits cs) := by
  obtain he | ⟨-, he⟩ | ⟨t, res, -, hres, he⟩ := s.receive_cases start fits cs <;> rw [he]
  · exact h
  · unfold State.hear
    split
    · exact hfbc _ _ (State.spaceAt_preserves hfbc h _)
    · exact h
  · exact State.endTxn_preserves hfbc hresult h _ (replyResult_inRange hres) _

include hfbc hresult in
theorem State.contendSending_preserves {s : State} (h : P s) (echo : List (Option RxChar)) :
    P (s.contendSending echo) := by
  unfold State.contendSending
  split
  · split
    · exact hresult _ _ _ trivial (hfbc _ _ (hfbc _ _ h))
    · exact h
  · exact h

include hfbc hresult in
theorem State.noReply_preserves {s : State} (h : P s) : P s.noReply := by
  unfold State.noReply
  split
  · split
    · exact hresult _ _ _ trivial (hfbc _ _ h)
    · exact h
  · exact h

include hfbc hresult in
theorem State.changeBus_preserves {s : State} (h : P s) (enable : Bool) (rate : BitRate) :
    P (s.changeBus enable rate) := by
  unfold State.changeBus State.cutOff
  dsimp only
  split
  · split
    · exact hresult _ _ _ trivial (hfbc _ _ (hfbc _ _ h))
    · exact hfbc _ _ (hfbc _ _ h)
  · exact hfbc _ _ h

/-- The events of the field bus line and its timers (chapter 7). -/
def isLineEvent : Instr → Bool
  | .requestSent _ _ | .contention _ _ | .foreignTalker _ | .quietLimit _ | .quietTimeEnd _ | .joinWaitComplete _
  | .noReply _ | .gap _ _ | .replyFailed _ _ | .state _ _ _ _ _ | .answer _ _ _ | .frxAtSpace _ => true
  | _ => false

include hfbc hresult in
/-- An invariant that reads neither the time nor the link, and that no result breaks, is kept by every event of the line. -/
theorem exec_line_preserves (htime : ∀ s u, P s → P (State.at s u)) {i : Instr} (hi : isLineEvent i = true)
    {s t : State} (hs : P s) (h : exec i s = .next t) : P t := by
  cases i
  case requestSent =>
    cases h
    refine State.event_preserves (htime _ _ hs) fun _ _ => ?_
    unfold State.requestSent
    split
    · split
      · exact hfbc _ _ (hfbc _ _ (htime _ _ hs))
      · exact htime _ _ hs
    · exact htime _ _ hs
  case contention =>
    cases h
    exact State.event_preserves (htime _ _ hs) fun _ _ => State.contendSending_preserves hfbc hresult (htime _ _ hs) _
  case foreignTalker | quietLimit | quietTimeEnd | joinWaitComplete =>
    cases h
    exact State.event_preserves (htime _ _ hs) fun _ _ => hfbc _ _ (htime _ _ hs)
  case noReply =>
    cases h
    exact State.event_preserves (htime _ _ hs) fun _ _ => State.noReply_preserves hfbc hresult (htime _ _ hs)
  case gap chars u =>
    cases h
    refine State.event_preserves (htime _ _ hs) fun _ _ => ?_
    obtain he | ⟨_, t, -, he⟩ := (s.at u).gapAfter_cases chars <;> rw [he]
    · exact htime _ _ hs
    · exact State.endTxn_preserves hfbc hresult (htime _ _ hs) _ (res := .failed .gap) trivial _
  case replyFailed chars u =>
    cases h
    refine State.event_preserves (htime _ _ hs) fun _ _ => ?_
    cases chars with
    | nil => exact htime _ _ hs
    | cons => exact State.receive_preserves hfbc hresult (htime _ _ hs) ..
  case state | answer =>
    cases h
    refine State.event_preserves (htime _ _ hs) fun _ _ => ?_
    obtain he | ⟨_, _, _, he⟩ := State.receiveFrame_cases _ _ _ <;> rw [he]
    · exact htime _ _ hs
    · exact State.receive_preserves hfbc hresult (htime _ _ hs) ..
  case frxAtSpace =>
    cases h
    exact hfbc _ _ (State.event_preserves (htime _ _ hs) fun _ _ => State.spaceNow_preserves hfbc (htime _ _ hs))
  all_goals cases hi

end

/-! ### O54 -/

theorem State.takeExpiry_journalWf {s : State} (h : s.journal.wf) : s.takeExpiry.journal.wf := by
  unfold State.takeExpiry
  dsimp only
  split
  · exact h
  · simp only [State.latch, State.latchCopy_journal, State.mapConsumers_journal, State.latchQueue]
    exact State.removeQueued_journalWf (by simpa [State.latchCounted] using h) ..

/-- Reading moves a cursor only where an entry stands on it, which then is one of the unread (R163). -/
theorem Journal.wf_read {j : Journal} (hj : j.wf) {p : Port} (hp : j.cursors.get p ≠ j.next) :
    Journal.wf { j with cursors := j.cursors.set p (j.cursors.get p + 1) } := by
  rw [Journal.wf_iff] at hj ⊢
  obtain ⟨hlen, hseq, hunread⟩ := hj
  refine ⟨hlen, hseq, fun q => ?_⟩
  have hq := hunread q
  simp only [Journal.unread, PerPort.get_set] at hq ⊢
  split
  · next h =>
    subst h
    bv_omega
  · exact hq

/-- Every command keeps the journal sound: the entries it writes are appended one at a time, and its readings move one
cursor. -/
theorem exec_journalWf {i : Instr} {s t : State} (hs : s.journal.wf) (h : exec i s = .next t) : t.journal.wf := by
  cases i with
  | powerOnReset =>
    cases h
    exact (by decide : State.reset.journal.wf)
  | warmReset =>
    cases h
    split <;> exact hs
  | selectWindowClose =>
    cases h
    unfold State.closeWindow
    dsimp only
    split <;> exact hs
  | unknownRequest p code rest =>
    obtain hnext | ⟨r, hnext⟩ := execUnknownRequest_cases p code rest s <;> cases hnext.symm.trans h
    · exact hs
    · exact State.request_preserves (P := fun s => s.journal.wf) hs (fun _ _ h => h) fun _ => hs
  | readJournal p =>
    cases h
    refine State.request_preserves (P := fun s => s.journal.wf) hs (fun _ _ h => h) fun _ => ?_
    cases he : s.nextUnread p with
    | none => exact hs
    | some e =>
      refine Journal.wf_read hs fun hcursor => ?_
      simp [State.nextUnread, hcursor] at he
  | stop | freeze | hold =>
    cases h
    refine State.request_preserves (P := fun s => s.journal.wf) hs (fun _ _ h => h) fun _ => ?_
    (repeat' split) <;> first | exact hs | exact State.removeQueued_journalWf (by simpa using hs) ..
  | setBus p enable rate u =>
    cases h
    refine State.request_preserves (P := fun s => s.journal.wf) hs (fun _ _ h => h) fun _ => ?_
    (repeat' split) <;> first
      | exact hs
      | exact State.changeBus_preserves (P := fun s => s.journal.wf) (s := s.at u) (fun _ _ h => h)
          (fun _ t res _ h => State.result_journalWf h t res) hs ..
  | roundTimerExpiry | windowExpiry | holdExpiry | expired =>
    cases h
    exact State.event_preserves (P := fun s => s.journal.wf) hs fun _ _ => State.takeExpiry_journalWf hs
  | selectWindowOpen | zcPinChange =>
    cases h
    simpa using hs
  | completion | repeatDue | switchingWaitEnd | confirmRetryDue | issueGrant | confirmGrant | recheckGrant | queryGrant
  | sweepGrant =>
    cases h
    split
    · exact State.event_preserves (P := fun s => s.journal.wf) hs fun _ _ => by simpa using hs
    · exact hs
  | resetnLow | qualifyTimeExpiry | lossExpiry | internalTick =>
    cases h
    exact State.event_preserves (P := fun s => s.journal.wf) hs fun _ _ => by simpa using hs
  | requestSent | contention | foreignTalker | quietLimit | quietTimeEnd | joinWaitComplete | noReply | gap
  | replyFailed | state | answer | frxAtSpace =>
    exact exec_line_preserves (P := fun s => s.journal.wf) (fun _ _ h => h)
      (fun _ t res _ h => State.result_journalWf h t res) (fun _ _ h => h) rfl hs h
  | _ =>
    cases h
    refine State.request_preserves (P := fun s => s.journal.wf) hs (fun _ _ h => h) fun _ => ?_
    (repeat' split) <;> simpa using hs

/-- Settles O54: what a journal write and a reading keep, carried through every command. -/
theorem everyStepKeepsTheJournalSound : Obligations.EveryStepKeepsTheJournalSound :=
  fun _ _ => step_preserves (P := fun s => s.journal.wf) (fun _ _ h => h) fun _ _ _ => exec_journalWf

end Sys2Proof.Machine


/-! PROOFS. The mains (06_mains_timing.md): what every command keeps of the mains state, the marks and the qualifiers. -/

namespace Sys2Proof.Machine

/-! ### The phases present and the tick source (R105, R106, R117) -/

/-- The source is INTERNAL exactly when every phase is LOST (R117). -/
theorem Mtu.source_eq_none_iff (m : Mtu) : m.source = none ↔ ∀ p, m.stamps.get p = none := by
  simp only [Mtu.source, List.find?_eq_none, Mtu.phasePresent]
  constructor
  · intro h p
    simpa using h p (by cases p <;> decide)
  · intro h p _
    simp [h p]

theorem mem_phases (p : Phase) : p ∈ phases := by
  cases p <;> decide

/-! ### A sound MTU in parts -/

/-- The mains state, the good count and the settings of a sound MTU (R108, R111, R113). -/
structure Mtu.StateWf (m : Mtu) : Prop where
  absent : m.mains = .absent ↔ ∀ p, m.stamps.get p = none
  valid : m.mains = .valid → (∀ p, m.stamps.get p ≠ none) ∧ 8 ≤ m.good
  idle : m.mains = .absent ∨ m.mains = .disturbed → m.good = 0
  good : m.good ≤ 255
  settings : m.settings.inRange = true

/-- The marks and the previous stamp of a sound MTU (R105, R106). -/
structure Mtu.MarksWf (m : Mtu) : Prop where
  mark2 : m.mark2 = true → m.stamps.l2 ≠ none
  mark3 : m.mark3 = true → m.stamps.l3 ≠ none
  prevL1 : m.prevL1 ≠ none → m.stamps.l1 ≠ none

/-- A sound MTU, but for its qualifiers, which a part that is held does not keep. -/
structure Mtu.Sound (m : Mtu) : Prop where
  state : m.StateWf
  marks : m.MarksWf

theorem Mtu.StateWf.congr {m n : Mtu} (h : m.StateWf) (hstamps : n.stamps = m.stamps) (hmains : n.mains = m.mains)
    (hgood : n.good = m.good) (hsettings : n.settings = m.settings) : n.StateWf := by
  obtain ⟨habsent, hvalid, hidle, hbound, hrange⟩ := h
  rw [← hmains] at habsent hvalid hidle
  rw [← hgood] at hvalid hidle hbound
  rw [← hstamps] at habsent hvalid
  exact ⟨habsent, hvalid, hidle, hbound, hsettings ▸ hrange⟩

theorem Mtu.MarksWf.congr {m n : Mtu} (h : m.MarksWf) (hstamps : n.stamps = m.stamps) (hmark2 : n.mark2 = m.mark2)
    (hmark3 : n.mark3 = m.mark3) (hprev : n.prevL1 = m.prevL1) : n.MarksWf := by
  obtain ⟨h2, h3, h1⟩ := h
  rw [← hstamps] at h1 h2 h3
  exact ⟨hmark2 ▸ h2, hmark3 ▸ h3, hprev ▸ h1⟩

theorem State.mainsWf_iff (s : State) :
    s.mainsWf ↔ s.mtu.Sound ∧ (s.held = false → ∀ p, (s.mtu.pins.get p).wf) := by
  simp only [State.mainsWf, Mtu.source_eq_none_iff, Mtu.phasePresent, Option.isSome_iff_ne_none]
  constructor
  · rintro ⟨habsent, hvalid, hidle, hgood8, hgood, hsettings, hmark2, hmark3, hprev, hpins⟩
    exact ⟨⟨⟨habsent, fun h => ⟨fun p => hvalid h p (mem_phases p), hgood8 h⟩, hidle, hgood, hsettings⟩,
      ⟨hmark2, hmark3, hprev⟩⟩, fun h p => hpins h p (mem_phases p)⟩
  · rintro ⟨⟨⟨habsent, hvalid, hidle, hgood, hsettings⟩, ⟨hmark2, hmark3, hprev⟩⟩, hpins⟩
    exact ⟨habsent, fun h p _ => (hvalid h).1 p, hidle, fun h => (hvalid h).2, hgood, hsettings, hmark2, hmark3, hprev,
      fun h p _ => hpins h p⟩

/-! ### The mains state (R113) -/

@[simp] theorem State.setMainsState_mtu (s : State) (st : MainsState) (good : Nat) :
    (s.setMainsState st good).mtu = { s.mtu with mains := st, good := good } := by
  unfold State.setMainsState
  dsimp only
  split
  · rfl
  · split <;> simp

/-- A return ends ABSENT (R113). -/
theorem State.mainsReturn_mtu (s : State) :
    s.mainsReturn.mtu = { s.mtu with
      mains := if s.mtu.mains = .absent then .settling else s.mtu.mains
      good := if s.mtu.mains = .absent then 0 else s.mtu.good } := by
  unfold State.mainsReturn
  split <;> simp

theorem MainsSettings.settle_of_inRange {m : MainsSettings} (h : m.inRange = true) : 8 ≤ m.settle ∧ m.settle ≤ 255 := by
  simp only [MainsSettings.inRange, decide_eq_true_eq] at h
  exact h.2.2.2.1

/-- A verdict keeps the mains state sound; a good one comes only with all phases PRESENT (R109, R113). -/
theorem State.mainsVerdict_stateWf {s : State} (h : s.mtu.StateWf) {v : CycleVerdict}
    (hgood : v = .good → ∀ p, s.mtu.stamps.get p ≠ none) : (s.mainsVerdict v).mtu.StateWf := by
  obtain ⟨habsent, hvalid, hidle, hcount, hsettings⟩ := h
  have hsettle := MainsSettings.settle_of_inRange hsettings
  unfold State.mainsVerdict
  split <;> rename_i hmains
  case h_1 =>
    simp only [State.setMainsState_mtu]
    split
    · next hn =>
      exact ⟨by simpa [hmains] using habsent, fun _ => ⟨hgood rfl, hsettle.1.trans hn⟩, by simp,
        Nat.min_le_left .., hsettings⟩
    · exact ⟨by simpa [hmains] using habsent, by simp, by simp, Nat.min_le_left .., hsettings⟩
  case h_3 | h_7 => exact ⟨habsent, hvalid, hidle, hcount, hsettings⟩
  all_goals
    simp only [State.setMainsState_mtu]
    exact ⟨by simpa [hmains] using habsent, by simp, by simp, by simp, hsettings⟩

/-- A verdict touches nothing of the MTU but the mains state and the good count. -/
theorem State.mainsVerdict_mtu (s : State) (v : CycleVerdict) :
    ∃ st good, (s.mainsVerdict v).mtu = { s.mtu with mains := st, good := good } := by
  unfold State.mainsVerdict
  split <;> first | exact ⟨_, _, State.setMainsState_mtu ..⟩ | exact ⟨_, _, rfl⟩

/-- A loss keeps the mains state sound: `m` is the MTU before it (R106, R113). -/
theorem State.mainsLoss_stateWf {s : State} {m : Mtu} (h : m.StateWf) (p : Phase)
    (hstamps : s.mtu.stamps = m.stamps.set p none) (hmains : s.mtu.mains = m.mains) (hcount : s.mtu.good = m.good)
    (hsettings : s.mtu.settings = m.settings) : s.mainsLoss.mtu.StateWf := by
  obtain ⟨habsent, hvalid, hidle, hbound, hrange⟩ := h
  rw [← hmains] at habsent hvalid hidle
  rw [← hcount] at hvalid hidle hbound
  rw [← hsettings] at hrange
  have hlast : s.mtu.source.isNone = true ↔ ∀ q, s.mtu.stamps.get q = none := by
    rw [Option.isNone_iff_eq_none, Mtu.source_eq_none_iff]
  unfold State.mainsLoss
  dsimp only
  split <;> rename_i hst
  case h_1 | h_3 =>
    simp only [State.setMainsState_mtu]
    by_cases hl : s.mtu.source.isNone = true
    · rw [if_pos hl]
      exact ⟨by simpa using hlast.1 hl, by simp, by simp, by simp, hrange⟩
    · rw [if_neg hl]
      exact ⟨by simpa using fun h => hl (hlast.2 h), by simp, by simp, by simp, hrange⟩
  case h_2 =>
    simp only [State.setMainsState_mtu]
    obtain ⟨q, hq⟩ : ∃ q : Phase, q ≠ p := by cases p <;> [exact ⟨.l2, nofun⟩; exact ⟨.l1, nofun⟩; exact ⟨.l1, nofun⟩]
    refine ⟨?_, by simp, by simp, by simp, hrange⟩
    simpa using ⟨q, by simpa [hstamps, hq] using (hvalid hst).1 q⟩
  case h_4 =>
    refine ⟨?_, by simp [hst], hidle, hbound, hrange⟩
    have hnone := habsent.1 hst
    simp [hst, hstamps, hnone]

/-! ### Edges and losses (R105, R106, R109) -/

/-- A rising edge makes its phase PRESENT and ends ABSENT, and the state is sound again (R105, R113). -/
theorem State.edgeReturn_sound {s : State} (h : s.mtu.Sound) (p : Phase) (stamp : Time) :
    ({ s with mtu := s.mtu.stamped p stamp } : State).mainsReturn.mtu.Sound := by
  obtain ⟨⟨habsent, hvalid, hidle, hbound, hrange⟩, hmarks⟩ := h
  rw [State.mainsReturn_mtu]
  have hpresent : ¬∀ q, (s.mtu.stamped p stamp).stamps.get q = none := fun h => by
    simpa [Mtu.stamped] using h p
  have hstamped (q : Phase) (hq : s.mtu.stamps.get q ≠ none) : (s.mtu.stamped p stamp).stamps.get q ≠ none := by
    by_cases hqp : q = p <;> simp [Mtu.stamped, hqp] at hq ⊢
    exact hq
  refine ⟨?state, ?marks⟩
  case state =>
    by_cases hm : (s.mtu.stamped p stamp).mains = .absent
    · simp only [if_pos hm]
      exact ⟨by simpa using hpresent, by simp, by simp, by simp, hrange⟩
    · simp only [if_neg hm]
      exact ⟨by simpa [hm] using hpresent, fun h => ⟨fun q => hstamped q ((hvalid h).1 q), (hvalid h).2⟩, hidle,
        hbound, hrange⟩
  case marks =>
    obtain ⟨hmark2, hmark3, hprev⟩ := hmarks
    refine ⟨fun h => ?_, fun h => ?_, fun h => hstamped .l1 (hprev h)⟩
    · by_cases hp : p = .l2
      · subst hp; nofun
      · exact hstamped .l2 (hmark2 (by simpa [Mtu.stamped, hp] using h))
    · by_cases hp : p = .l3
      · subst hp; nofun
      · exact hstamped .l3 (hmark3 (by simpa [Mtu.stamped, hp] using h))

/-- The distances of a good verdict are both there, so both marks are set (R109). -/
theorem cycleVerdict_good {m : MainsSettings} {period : Nat} {d2 d3 : Option Nat}
    (h : cycleVerdict m period d2 d3 = .good) : d2 ≠ none ∧ d3 ≠ none := by
  unfold cycleVerdict at h
  split at h
  · cases h
  · split at h
    · exact ⟨nofun, nofun⟩
    · cases h

theorem spacing_ne_none {mark : Bool} {stamp : Option Time} {old : Time} (h : spacing mark stamp old ≠ none) :
    stamp ≠ none := by
  rintro rfl
  simp [spacing] at h

/-- The MTU with new figures reported (R115). -/
def State.figured (s : State) (f : Figures) : State := { s with mtu := { s.mtu with figures := some f } }

/-- The MTU after a check: the stamp is the previous one, and the marks are clear (R109). -/
def State.checkedAt (s : State) (stamp : Time) : State :=
  { s with mtu := { s.mtu with prevL1 := some stamp, mark2 := false, mark3 := false } }

/-- The verdict of an L1 edge on the period since the previous one (R109). -/
def Mtu.judge (m : Mtu) (stamp old : Time) : CycleVerdict :=
  cycleVerdict m.settings (since stamp old) (spacing m.mark2 m.stamps.l2 old) (spacing m.mark3 m.stamps.l3 old)

/-- All that a cycle check can do: none is made, or its verdict is good, or bad (R109). -/
theorem State.cycleCheck_cases (s : State) (stamp : Time) :
    (s.mtu.prevL1 = none ∧ s.cycleCheck stamp = s.checkedAt stamp) ∨
    ∃ old, s.mtu.prevL1 = some old ∧
      ((s.mtu.judge stamp old = .good ∧ s.cycleCheck stamp =
        ((s.figured ⟨since stamp old, (spacing s.mtu.mark2 s.mtu.stamps.l2 old).getD 0,
          (spacing s.mtu.mark3 s.mtu.stamps.l3 old).getD 0, centihertz (since stamp old),
          s.engine.round⟩).mainsVerdict .good).checkedAt stamp) ∨
      ∃ c, s.mtu.judge stamp old = .bad c ∧
        s.cycleCheck stamp = ((s.recordFault c).mainsVerdict (.bad c)).checkedAt stamp) := by
  cases hprev : s.mtu.prevL1 with
  | none => exact .inl ⟨rfl, by simp only [State.cycleCheck, hprev]; rfl⟩
  | some old =>
    refine .inr ⟨old, rfl, ?_⟩
    cases hv : s.mtu.judge stamp old with
    | good =>
      refine .inl ⟨rfl, ?_⟩
      simp only [Mtu.judge] at hv
      simp only [State.cycleCheck, State.figured, State.checkedAt, hprev, hv]
    | bad c =>
      refine .inr ⟨c, rfl, ?_⟩
      simp only [Mtu.judge] at hv
      simp only [State.cycleCheck, State.checkedAt, hprev, hv]

theorem Mtu.sound_checkedAt {s : State} (h : s.mtu.StateWf) (hl1 : s.mtu.stamps.l1 ≠ none) (stamp : Time) :
    (s.checkedAt stamp).mtu.Sound :=
  ⟨⟨h.absent, h.valid, h.idle, h.good, h.settings⟩, ⟨nofun, nofun, fun _ => hl1⟩⟩

theorem State.mainsVerdict_stamps (s : State) (v : CycleVerdict) : (s.mainsVerdict v).mtu.stamps = s.mtu.stamps := by
  obtain ⟨st, good, hm⟩ := s.mainsVerdict_mtu v
  rw [hm]

theorem State.mainsVerdict_checked_sound {s : State} {v : CycleVerdict} (h : s.mtu.StateWf)
    (hgood : v = .good → ∀ p, s.mtu.stamps.get p ≠ none) (hl1 : s.mtu.stamps.l1 ≠ none) (stamp : Time) :
    ((s.mainsVerdict v).checkedAt stamp).mtu.Sound :=
  Mtu.sound_checkedAt (State.mainsVerdict_stateWf h hgood) (by rwa [State.mainsVerdict_stamps]) stamp

/-- A cycle check keeps the MTU sound, L1 being PRESENT (R109, R113). -/
theorem State.cycleCheck_sound {s : State} (h : s.mtu.Sound) (hl1 : s.mtu.stamps.l1 ≠ none) (stamp : Time) :
    (s.cycleCheck stamp).mtu.Sound := by
  obtain ⟨-, he⟩ | ⟨old, -, ⟨hv, he⟩ | ⟨c, -, he⟩⟩ := s.cycleCheck_cases stamp <;> rw [he]
  · exact Mtu.sound_checkedAt h.state hl1 stamp
  · obtain ⟨h2, h3⟩ := cycleVerdict_good hv
    have hall : ∀ p, s.mtu.stamps.get p ≠ none
      | .l1 => hl1
      | .l2 => spacing_ne_none h2
      | .l3 => spacing_ne_none h3
    refine State.mainsVerdict_checked_sound ?_ ?_ ?_ stamp
    · exact h.state.congr rfl rfl rfl rfl
    · exact fun _ => hall
    · exact hl1
  · refine State.mainsVerdict_checked_sound ?_ ?_ ?_ stamp
    · exact h.state.congr rfl rfl rfl rfl
    · exact fun hc => by cases hc
    · exact hl1

/-- An accepted rising edge up to its cycle tick: stamp and presence, the mains state on a return, and the cycle check of L1
(R105, R109, R113). -/
def State.edge (s : State) (p : Phase) (stamp : Time) : State :=
  let s := { s with mtu := s.mtu.stamped p stamp }.mainsReturn
  if p = .l1 then s.cycleCheck stamp else s

/-- A rising edge delivers a cycle tick if its phase is then the source (R117). -/
theorem State.risingEdge_eq (s : State) (p : Phase) (stamp : Time) :
    s.risingEdge p stamp =
      if (s.edge p stamp).mtu.source = some p then (s.edge p stamp).cycleTick else s.edge p stamp := rfl

theorem State.risingEdge_mtu (s : State) (p : Phase) (stamp : Time) :
    (s.risingEdge p stamp).mtu = (s.edge p stamp).mtu := by
  rw [State.risingEdge_eq]
  split <;> simp

theorem State.edge_sound {s : State} (h : s.mtu.Sound) (p : Phase) (stamp : Time) : (s.edge p stamp).mtu.Sound := by
  have hreturn := State.edgeReturn_sound h p stamp
  unfold State.edge
  dsimp only
  split
  · next hp =>
    refine State.cycleCheck_sound hreturn ?_ stamp
    subst hp
    rw [State.mainsReturn_mtu]
    nofun
  · exact hreturn

/-- The marks and the previous stamp go with their phase (R106). -/
theorem Mtu.lose_marksWf {m : Mtu} (h : m.MarksWf) (p : Phase) : (m.lose p).MarksWf := by
  obtain ⟨hmark2, hmark3, hprev⟩ := h
  cases p
  · exact ⟨hmark2, hmark3, fun h => absurd rfl h⟩
  · exact ⟨nofun, hmark3, hprev⟩
  · exact ⟨hmark2, nofun, hprev⟩

theorem State.mainsLoss_mtu (s : State) : ∃ st good, s.mainsLoss.mtu = { s.mtu with mains := st, good := good } := by
  unfold State.mainsLoss
  dsimp only
  split <;> first | exact ⟨_, _, State.setMainsState_mtu ..⟩ | exact ⟨_, _, rfl⟩

theorem State.losePhase_sound {s : State} (h : s.mtu.Sound) (p : Phase) : (s.losePhase p).mtu.Sound := by
  have hloss : (({ s with mtu := s.mtu.lose p } : State).recordFault (.loss p)).mainsLoss.mtu.Sound := by
    refine ⟨State.mainsLoss_stateWf h.state p rfl rfl rfl rfl, ?_⟩
    obtain ⟨st, good, hm⟩ := (({ s with mtu := s.mtu.lose p } : State).recordFault (.loss p)).mainsLoss_mtu
    obtain ⟨hmark2, hmark3, hprev⟩ := Mtu.lose_marksWf h.marks p
    rw [hm]
    exact ⟨hmark2, hmark3, hprev⟩
  unfold State.losePhase
  dsimp only
  split
  · exact ⟨hloss.state.congr rfl rfl rfl rfl, hloss.marks.congr rfl rfl rfl rfl⟩
  · exact hloss

/-! ### The qualifiers (R103) -/

theorem State.cycleCheck_pins (s : State) (stamp : Time) : (s.cycleCheck stamp).mtu.pins = s.mtu.pins := by
  obtain ⟨-, he⟩ | ⟨old, -, ⟨-, he⟩ | ⟨c, -, he⟩⟩ := s.cycleCheck_cases stamp <;> rw [he]
  · rfl
  all_goals
    simp only [State.checkedAt]
    obtain ⟨st, good, hm⟩ := State.mainsVerdict_mtu _ _
    rw [hm]
    rfl

theorem State.edge_pins (s : State) (p : Phase) (stamp : Time) : (s.edge p stamp).mtu.pins = s.mtu.pins := by
  unfold State.edge
  dsimp only
  split
  · rw [State.cycleCheck_pins, State.mainsReturn_mtu]
    rfl
  · rw [State.mainsReturn_mtu]
    rfl

theorem State.losePhase_pins (s : State) (p : Phase) : (s.losePhase p).mtu.pins = s.mtu.pins := by
  obtain ⟨st, good, hm⟩ := (({ s with mtu := s.mtu.lose p } : State).recordFault (.loss p)).mainsLoss_mtu
  unfold State.losePhase
  dsimp only
  split <;> rw [hm] <;> rfl

/-- The sound qualifiers of a part that is not held (R103). -/
def Mtu.PinsWf (m : Mtu) : Prop := ∀ p, (m.pins.get p).wf

theorem State.putPin_pinsWf {s : State} (h : s.mtu.PinsWf) (p : Phase) {q : Qualifier} (hq : q.wf) :
    (s.putPin p q).mtu.PinsWf := by
  intro r
  simp only [State.putPin, PerPhase.get_set]
  split
  · exact hq
  · exact h r

/-- What accepting a level does: the qualifier holds the new level with no candidate, and a rising edge follows on LOW with
a candidate (R103, R104). -/
theorem State.acceptLevel_cases (s : State) (p : Phase) :
    s.acceptLevel p = s ∨
    (∃ level, s.acceptLevel p = s.putPin p { s.mtu.pins.get p with accepted := some level, candidate := none } ∧
      ((s.mtu.pins.get p).wf → level = (s.mtu.pins.get p).pin)) ∨
    ∃ c, (s.mtu.pins.get p).accepted = some .low ∧ (s.mtu.pins.get p).candidate = some c ∧ s.acceptLevel p =
      (s.putPin p { s.mtu.pins.get p with accepted := some .high, candidate := none }).risingEdge p c := by
  unfold State.acceptLevel
  dsimp only
  split
  case h_1 => exact .inr (.inl ⟨_, rfl, fun _ => rfl⟩)
  case h_2 c hacc hcand => exact .inr (.inr ⟨c, hacc, hcand, rfl⟩)
  case h_3 c hacc hcand =>
    refine .inr (.inl ⟨_, rfl, fun hwf => ?_⟩)
    obtain ⟨-, hpin⟩ := hwf.1 (by simp [hcand])
    cases h : (s.mtu.pins.get p).pin with
    | low => rfl
    | high => simp [hacc, h] at hpin
  case h_4 => exact .inl rfl

theorem Qualifier.wf_accepted (q : Qualifier) : Qualifier.wf { q with accepted := some q.pin, candidate := none } := by
  simp [Qualifier.wf]

theorem State.acceptLevel_pinsWf {s : State} (h : s.mtu.PinsWf) (p : Phase) : (s.acceptLevel p).mtu.PinsWf := by
  obtain he | ⟨level, he, hlevel⟩ | ⟨c, hacc, hcand, he⟩ := s.acceptLevel_cases p <;> rw [he]
  · exact h
  · refine State.putPin_pinsWf h p ?_
    rw [hlevel (h p)]
    exact Qualifier.wf_accepted _
  · have hhigh : (s.mtu.pins.get p).pin = .high := by
      obtain ⟨-, hpin⟩ := (h p).1 (by simp [hcand])
      cases hq : (s.mtu.pins.get p).pin with
      | high => rfl
      | low => simp [hacc, hq] at hpin
    unfold Mtu.PinsWf
    rw [State.risingEdge_mtu, State.edge_pins]
    refine State.putPin_pinsWf h p ?_
    rw [← hhigh]
    exact Qualifier.wf_accepted _

theorem State.acceptLevel_sound {s : State} (h : s.mtu.Sound) (p : Phase) : (s.acceptLevel p).mtu.Sound := by
  obtain he | ⟨level, he, -⟩ | ⟨c, -, -, he⟩ := s.acceptLevel_cases p <;> rw [he]
  · exact h
  · exact ⟨h.state.congr rfl rfl rfl rfl, h.marks.congr rfl rfl rfl rfl⟩
  · rw [State.risingEdge_mtu]
    refine State.edge_sound ?_ p c
    exact ⟨h.state.congr rfl rfl rfl rfl, h.marks.congr rfl rfl rfl rfl⟩


/-! ### A change of settings (R119) -/

theorem State.takeDue_sound {s : State} (h : s.mtu.Sound) (d : MainsDue) : (s.takeDue d).mtu.Sound := by
  unfold State.takeDue
  split
  · cases d with
    | accept p => exact State.acceptLevel_sound h p
    | loss p => exact State.losePhase_sound h p
    | tick =>
      simp only [State.tickInternal, State.cycleTick_frame]
      exact ⟨h.state.congr rfl rfl rfl rfl, h.marks.congr rfl rfl rfl rfl⟩
  · exact h

theorem State.takeDue_pinsWf {s : State} (h : s.mtu.PinsWf) (d : MainsDue) : (s.takeDue d).mtu.PinsWf := by
  unfold State.takeDue
  split
  · cases d with
    | accept p => exact State.acceptLevel_pinsWf h p
    | loss p => rwa [Mtu.PinsWf, State.losePhase_pins]
    | tick =>
      simp only [State.tickInternal, State.cycleTick_frame]
      exact h
  · exact h

/-- Taking the due events keeps what taking each of them keeps. -/
theorem State.takeAll_preserves {P : State → Prop} (hcount : ∀ s n, P s → P { s with freeCount := n })
    (hdue : ∀ s d, P s → P (State.takeDue s d)) {s : State} (h : P s) (k : Nat) (ds : List MainsDue) :
    P (State.takeAll k s ds) := by
  induction k generalizing s ds with
  | zero => exact h
  | succ k ih =>
    match ds with
    | [] => exact h
    | [d] => exact hdue _ _ h
    | d :: e :: ds => exact ih (hdue _ _ (hcount _ _ h)) _

theorem State.changeMains_sound {s : State} (h : s.mtu.Sound) {m : MainsSettings} (hm : m.inRange = true) :
    (s.changeMains m).mtu.Sound :=
  State.takeAll_preserves (P := fun s => s.mtu.Sound) (fun _ _ h => h) (fun _ d h => State.takeDue_sound h d)
    (s := { s with mtu := { s.mtu with settings := m } })
    ⟨⟨h.state.absent, h.state.valid, h.state.idle, h.state.good, hm⟩, h.marks.congr rfl rfl rfl rfl⟩ _ _

theorem State.changeMains_pinsWf {s : State} (h : s.mtu.PinsWf) (m : MainsSettings) : (s.changeMains m).mtu.PinsWf :=
  State.takeAll_preserves (P := fun s => s.mtu.PinsWf) (fun _ _ h => h) (fun _ d h => State.takeDue_pinsWf h d)
    (by exact h) _ _

/-! ### O56 -/

theorem State.mainsWf_congr {s t : State} (hm : t.mtu = s.mtu) (hh : t.held = s.held) (h : s.mainsWf) : t.mainsWf := by
  rw [State.mainsWf_iff] at h ⊢
  rwa [hm, hh]

/-- The MTU after a reset, whatever the pins and the settings in range (R105, R111, R120). -/
theorem Mtu.reset_sound (zc1 zc2 zc3 : Level) (t : Time) {m : MainsSettings} (hm : m.inRange = true) :
    Mtu.Sound { Mtu.reset zc1 zc2 zc3 t with settings := m } ∧
      Mtu.PinsWf { Mtu.reset zc1 zc2 zc3 t with settings := m } := by
  refine ⟨⟨⟨?_, nofun, fun _ => rfl, Nat.zero_le _, hm⟩, ⟨nofun, nofun, fun h => absurd rfl h⟩⟩, fun p => ?_⟩
  · exact ⟨fun _ p => by cases p <;> rfl, fun _ => rfl⟩
  · cases p <;> simp [Mtu.reset, PerPhase.get, Qualifier.reset, Qualifier.wf]

theorem State.warm_mainsWf {s : State} (h : s.mainsWf) : s.warm.mainsWf := by
  rw [State.mainsWf_iff] at h ⊢
  obtain ⟨hsound, hpins⟩ := Mtu.reset_sound s.mtu.pins.l1.pin s.mtu.pins.l2.pin s.mtu.pins.l3.pin s.time
    h.1.state.settings
  exact ⟨hsound, fun _ => hpins⟩

/-- A pin that moves keeps its qualifier sound, while the part is not held (R103). -/
theorem State.pinChange_mainsWf {s : State} (h : s.mainsWf) (p : Phase) (level : Level) :
    (s.pinChange p level).mainsWf := by
  rw [State.mainsWf_iff] at h ⊢
  obtain ⟨hsound, hpins⟩ := h
  have hput (q : Qualifier) : (s.putPin p q).mtu.Sound :=
    ⟨hsound.state.congr rfl rfl rfl rfl, hsound.marks.congr rfl rfl rfl rfl⟩
  unfold State.pinChange
  dsimp only
  split
  · exact ⟨hsound, hpins⟩
  · split
    · next hheld => exact ⟨hput _, fun h => absurd (hheld.symm.trans h) (by decide)⟩
    · refine ⟨hput _, fun hheld => State.putPin_pinsWf (hpins hheld) p ?_⟩
      cases hacc : (s.mtu.pins.get p).accepted with
      | none => simp [Qualifier.wf]
      | some a => by_cases ha : a = level <;> simp [Qualifier.wf, ha]

/-- Every command keeps the mains sound. -/
theorem exec_mainsWf {i : Instr} {s t : State} (hs : s.mainsWf) (h : exec i s = .next t) : t.mainsWf := by
  have hanswer : ∀ (t : State) (p : Port) (w : Window), t.mainsWf → (t.setWindow p w).mainsWf := fun _ _ _ h => h
  cases i with
  | powerOnReset u =>
    cases h
    rw [State.mainsWf_iff]
    obtain ⟨hsound, hpins⟩ := Mtu.reset_sound s.mtu.pins.l1.pin s.mtu.pins.l2.pin s.mtu.pins.l3.pin u
      (m := MainsSettings.default) (by decide)
    exact ⟨hsound, fun _ => hpins⟩
  | warmReset u =>
    cases h
    split
    · exact State.warm_mainsWf (s := s.at u) hs
    · exact hs
  | selectWindowClose p u =>
    cases h
    unfold State.closeWindow
    dsimp only
    split
    · exact State.warm_mainsWf (s := (s.at u).setWindow p .closed) hs
    · exact hs
  | resetnLow u =>
    cases h
    refine State.event_preserves (P := State.mainsWf) hs fun _ _ => ?_
    rw [State.mainsWf_iff] at hs ⊢
    simp only [State.hold_frame]
    exact ⟨hs.1, nofun⟩
  | zcPinChange p level u =>
    cases h
    exact State.pinChange_mainsWf (s := s.at u) hs p level
  | qualifyTimeExpiry p u =>
    cases h
    refine State.event_preserves (P := State.mainsWf) hs fun _ _ => ?_
    rw [State.mainsWf_iff] at hs ⊢
    simp only [State.acceptLevel_frame]
    exact ⟨State.acceptLevel_sound (s := s.at u) hs.1 p, fun hheld =>
      State.acceptLevel_pinsWf (s := s.at u) (hs.2 hheld) p⟩
  | lossExpiry p u =>
    cases h
    refine State.event_preserves (P := State.mainsWf) hs fun _ _ => ?_
    rw [State.mainsWf_iff] at hs ⊢
    simp only [State.losePhase_frame, State.losePhase_pins]
    exact ⟨State.losePhase_sound (s := s.at u) hs.1 p, hs.2⟩
  | internalTick u =>
    cases h
    refine State.event_preserves (P := State.mainsWf) hs fun _ _ => ?_
    rw [State.mainsWf_iff] at hs ⊢
    simp only [State.tickInternal, State.cycleTick_frame]
    exact ⟨⟨hs.1.state.congr rfl rfl rfl rfl, hs.1.marks.congr rfl rfl rfl rfl⟩, hs.2⟩
  | setMains p f band tol settle qualify u =>
    cases h
    refine State.request_preserves (P := State.mainsWf) hs (fun t w => hanswer t p w) fun _ => ?_
    split
    · exact hs
    split
    · exact hs
    next hrange =>
    split
    · exact hs
    split
    · exact hs
    rw [State.mainsWf_iff] at hs ⊢
    simp only [State.changeMains_frame]
    exact ⟨State.changeMains_sound (s := s.at u) hs.1 (by simpa using hrange), fun hheld =>
      State.changeMains_pinsWf (s := s.at u) (hs.2 hheld) _⟩
  | unknownRequest p code rest =>
    obtain hnext | ⟨r, hnext⟩ := execUnknownRequest_cases p code rest s <;> cases hnext.symm.trans h
    · exact hs
    · exact State.request_preserves (P := State.mainsWf) hs (fun t w => hanswer t p w) fun _ => hs
  | requestSent | contention | foreignTalker | quietLimit | quietTimeEnd | joinWaitComplete | noReply | gap
  | replyFailed | state | answer | frxAtSpace =>
    exact exec_line_preserves (P := State.mainsWf) (fun _ _ h => h)
      (fun _ t res _ h => State.mainsWf_congr (by simp) (by simp) h) (fun _ _ h => h) rfl hs h
  | selectWindowOpen p =>
    cases h
    exact State.mainsWf_congr (by simp) (by simp) hs
  | completion | repeatDue | switchingWaitEnd | confirmRetryDue | issueGrant | confirmGrant | recheckGrant | queryGrant
  | sweepGrant =>
    cases h
    split
    · exact State.event_preserves (P := State.mainsWf) hs fun _ _ => State.mainsWf_congr (by simp) (by simp) hs
    · exact hs
  | roundTimerExpiry | windowExpiry | holdExpiry | expired =>
    cases h
    exact State.event_preserves (P := State.mainsWf) hs fun _ _ => State.mainsWf_congr (by simp) (by simp) hs
  | _ =>
    cases h
    refine State.request_preserves (P := State.mainsWf) hs (fun t w => hanswer t _ w) fun _ => ?_
    (repeat' split) <;> exact State.mainsWf_congr (s := s) (by simp) (by simp) hs

/-- Settles O56: the MTU's own events and resets keep it sound, and no other command touches it. -/
theorem everyStepKeepsTheMainsSound : Obligations.EveryStepKeepsTheMainsSound :=
  fun _ _ => step_preserves (P := State.mainsWf) (fun _ _ h => h) fun _ _ _ => exec_mainsWf

end Sys2Proof.Machine


/-! PROOFS. What every command keeps of the feeder as installed, the policy, the readings and the round in hand
(01_the_connection_map.md, 02_segments_freezes_and_policy.md, 04_the_balancing_round.md). -/

namespace Sys2Proof.Machine

/-! ### The present records in order (R1) -/

/-- The present records stand in ascending order of their numbers (R1). -/
theorem State.present_sorted (s : State) : s.present.Pairwise fun x y => x.1 < y.1 := by
  have hnumbers : s.consumers.zipIdx.Pairwise fun x y => x.2 < y.2 := by
    rw [← List.pairwise_map (f := Prod.snd) (R := (· < ·)), List.zipIdx_map_snd]
    exact List.pairwise_lt_range'
  refine hnumbers.filterMap _ ?_
  rintro ⟨r, n⟩ ⟨q, m⟩ hlt x hx y hy
  obtain ⟨c, -, rfl⟩ := Option.map_eq_some_iff.1 hx
  obtain ⟨d, -, rfl⟩ := Option.map_eq_some_iff.1 hy
  exact hlt

theorem State.present_length_le (s : State) : s.present.length ≤ s.consumers.length := by
  simpa [State.present] using List.length_filterMap_le _ s.consumers.zipIdx

/-- A property of the present records, number by number. -/
theorem State.forall_present {s : State} {p : Nat × Consumer → Prop} :
    (∀ x ∈ s.present, p x) ↔ ∀ n c, s.consumer? n = some c → p (n, c) := by
  simp [State.mem_present]

/-- No two present records share a value exactly when equal values mean equal numbers. -/
theorem State.present_nodup_iff {α : Type} (s : State) (f : Consumer → α) :
    (s.present.map fun x => f x.2).Nodup ↔
      ∀ m n c d, s.consumer? m = some c → s.consumer? n = some d → f c = f d → m = n := by
  have hnodup : s.present.Nodup := s.present_sorted.imp fun h he => absurd h (by simp [he])
  rw [List.nodup_map_iff_inj_on hnodup]
  constructor
  · intro h m n c d hc hd hf
    exact congrArg Prod.fst (h _ (State.mem_present.2 hc) _ (State.mem_present.2 hd) hf)
  · rintro h ⟨m, c⟩ hc ⟨n, d⟩ hd hf
    rw [State.mem_present] at hc hd
    obtain rfl := h m n c d hc hd hf
    rw [hc] at hd
    cases hd
    rfl

/-! ### A sound feeder in parts -/

/-- The readings of a record are in range (R15, R133). -/
def Consumer.ReadingsIn (c : Consumer) : Prop := c.frozen.within 1000 ∧ ∀ r ∈ c.reading, r.value.within 1000

/-- The map of a sound feeder with so many segments (R1, R20). -/
structure State.MapInRange (s : State) (count : Nat) : Prop where
  length : s.consumers.length = 96
  installed : ∀ n c, s.consumer? n = some c →
    (1 ≤ c.address ∧ c.address ≤ 126) ∧ c.segment < count ∧ c.cost ≤ 15 ∧ c.ReadingsIn
  unique : ∀ m n c d, s.consumer? m = some c → s.consumer? n = some d → c.address = d.address → m = n

/-- The segment table of a sound feeder (R23, R24, R25, R28, R32). -/
structure SegTable.Sound (t : SegTable) : Prop where
  count : 1 ≤ t.count ∧ t.count ≤ 8
  length : t.segments.length = 8
  segment : ∀ (i : Nat) (r : Segment), t.segments[i]? = some r → (10 ≤ r.limit ∧ r.limit ≤ 1000) ∧ (t.count ≤ i → r.frozenAt = none)
  head : ∀ h ∈ t.head, h.wf

theorem State.feederWf_iff (s : State) :
    s.feederWf ↔ s.MapInRange s.segs.count ∧ s.segs.Sound ∧ (s.policy.staged.wf ∧ s.policy.active.wf) ∧
      ∀ w ∈ s.engine.work, w.wf := by
  have hdrop : (∀ r ∈ s.segs.segments.drop s.segs.count, r.frozenAt = none) ↔
      ∀ (i : Nat) (r : Segment), s.segs.segments[i]? = some r → s.segs.count ≤ i → r.frozenAt = none := by
    simp only [List.mem_iff_getElem?, List.getElem?_drop]
    constructor
    · exact fun h i r hr hi => h r ⟨i - s.segs.count, by rwa [Nat.add_sub_cancel' hi]⟩
    · rintro h r ⟨i, hi⟩
      exact h _ r hi (Nat.le_add_right ..)
  have hlimit : (∀ r ∈ s.segs.segments, 10 ≤ r.limit ∧ r.limit ≤ 1000) ↔
      ∀ (i : Nat) (r : Segment), s.segs.segments[i]? = some r → 10 ≤ r.limit ∧ r.limit ≤ 1000 := by
    simp only [List.mem_iff_getElem?]
    exact ⟨fun h i r hr => h r ⟨i, hr⟩, fun h r ⟨i, hr⟩ => h i r hr⟩
  simp only [State.feederWf, State.forall_present, hdrop, hlimit]
  rw [State.present_nodup_iff s Consumer.address]
  constructor
  · rintro ⟨hlen, hcount, hsegs, hlimits, hfreezes, hmap, hunique, hstaged, hactive, hreadings, hhead, hwork⟩
    refine ⟨⟨hlen, fun n c hc => ?_, hunique⟩, ⟨hcount, hsegs, fun i r hr => ⟨hlimits i r hr, hfreezes i r hr⟩, hhead⟩,
      ⟨hstaged, hactive⟩, hwork⟩
    obtain ⟨ha1, ha2, hseg, hcost⟩ := hmap n c hc
    exact ⟨⟨ha1, ha2⟩, hseg, hcost, hreadings n c hc⟩
  · rintro ⟨⟨hlen, hmap, hunique⟩, ⟨hcount, hsegs, hsegment, hhead⟩, ⟨hstaged, hactive⟩, hwork⟩
    refine ⟨hlen, hcount, hsegs, fun i r hr => (hsegment i r hr).1, fun i r hr => (hsegment i r hr).2, fun n c hc => ?_,
      hunique, hstaged, hactive, fun n c hc => (hmap n c hc).2.2.2, hhead, hwork⟩
    obtain ⟨⟨ha1, ha2⟩, hseg, hcost, -⟩ := hmap n c hc
    exact ⟨ha1, ha2, hseg, hcost⟩

/-! ### Changes of the map that keep it in range -/

/-- A record that stays at its place in the feeder, with its readings in range. -/
def Consumer.Refits (c d : Consumer) : Prop :=
  (d.address = c.address ∧ d.segment = c.segment ∧ d.cost = c.cost) ∧ (c.ReadingsIn → d.ReadingsIn)

/-- A map is in range when each of its records refits one of a map in range. -/
theorem State.MapInRange.refit {s t : State} {count : Nat} (h : s.MapInRange count)
    (hlen : t.consumers.length = s.consumers.length)
    (hmap : ∀ n d, t.consumer? n = some d → ∃ c, s.consumer? n = some c ∧ c.Refits d) : t.MapInRange count where
  length := hlen.trans h.length
  installed n d hd := by
    obtain ⟨c, hc, ⟨haddress, hsegment, hcost⟩, hreadings⟩ := hmap n d hd
    obtain ⟨ha, hs, hk, hr⟩ := h.installed n c hc
    exact ⟨haddress ▸ ha, hsegment ▸ hs, hcost ▸ hk, hreadings hr⟩
  unique m n d e hd he hde := by
    obtain ⟨c, hc, ⟨hca, -, -⟩, -⟩ := hmap m d hd
    obtain ⟨b, hb, ⟨hba, -, -⟩, -⟩ := hmap n e he
    exact h.unique m n c b hc hb (by rw [← hca, ← hba, hde])

theorem State.MapInRange.congr {s t : State} {count : Nat} (h : s.MapInRange count) (hc : t.consumers = s.consumers) :
    t.MapInRange count :=
  h.refit (by rw [hc]) fun n d hd => ⟨d, by rwa [State.consumer?_congr hc.symm], ⟨rfl, rfl, rfl⟩, id⟩

theorem State.MapInRange.mapConsumers {s : State} {count : Nat} (h : s.MapInRange count) {f : Consumer → Consumer}
    (hf : ∀ c : Consumer, c.Refits (f c)) : (s.mapConsumers f).MapInRange count := by
  refine h.refit (by simp) fun n d hd => ?_
  rw [State.consumer?_mapConsumers, Option.map_eq_some_iff] at hd
  obtain ⟨c, hc, rfl⟩ := hd
  exact ⟨c, hc, hf c⟩

theorem State.MapInRange.putConsumer {s : State} {count : Nat} (h : s.MapInRange count) {n : Nat} {c d : Consumer}
    (hc : s.consumer? n = some c) (hd : c.Refits d) : (s.putConsumer n (some d)).MapInRange count := by
  refine h.refit (by simp) fun m e he => ?_
  rw [State.consumer?_putConsumer] at he
  split at he
  · next hm =>
    cases he
    exact ⟨c, hm.1 ▸ hc, hd⟩
  · exact ⟨e, he, ⟨rfl, rfl, rfl⟩, id⟩

theorem State.MapInRange.updateConsumer {s : State} {count : Nat} (h : s.MapInRange count) (n : Nat)
    {f : Consumer → Consumer} (hf : ∀ c : Consumer, c.Refits (f c)) : (s.updateConsumer n f).MapInRange count := by
  cases hc : s.consumer? n with
  | none => simpa only [State.updateConsumer, hc] using h
  | some c =>
    rw [State.updateConsumer_of_present hc]
    exact h.putConsumer hc (hf c)

theorem State.MapInRange.scoreHealth {s : State} {count : Nat} (h : s.MapInRange count) (n : Nat) (good : Bool) :
    (s.scoreHealth n good).MapInRange count := by
  cases hc : s.consumer? n with
  | none => simpa only [State.scoreHealth, hc] using h
  | some c =>
    rw [State.scoreHealth_eq good hc]
    have hd : c.Refits { c with health := if good then c.health - 1 else min 160 (c.health + 4) } :=
      ⟨⟨rfl, rfl, rfl⟩, id⟩
    exact (h.putConsumer hc hd).congr rfl

/-- A good STATE reply leaves the record at its place, and its reading is in range (R3, R133). -/
theorem Consumer.refits_heard (c : Consumer) {r : StateReply} (hr : r.value.within 1000) (round : RoundNo) :
    c.Refits (c.heard r round) := by
  have htaken : c.Refits (c.takeReading r round) :=
    ⟨⟨rfl, rfl, rfl⟩, fun h => ⟨h.1, by simpa [Consumer.takeReading] using hr⟩⟩
  unfold Consumer.heard
  split
  case h_3 => split <;> exact htaken
  all_goals exact htaken

theorem State.MapInRange.applyReply {s : State} {count : Nat} (h : s.MapInRange count) (n : Nat) {r : StateReply}
    (hr : r.value.within 1000) : (s.applyReply n r).MapInRange count := by
  obtain ⟨-, he⟩ | ⟨c, hc, he | ⟨b, p, cause, he⟩⟩ := s.applyReply_cases n r <;> rw [he]
  · exact h
  · exact (h.putConsumer hc (c.refits_heard hr s.engine.round)).congr (by simp)
  · exact (h.putConsumer hc (c.refits_heard hr s.engine.round)).congr (by simp)

/-- The map after the end of a move. -/
theorem State.endMove_consumers (s : State) (r : MoveRecord) (o : Outcome) (v : Option Refused)
    (map : Consumer → Consumer) (found : Option Phase) :
    (s.endMove r o v map found).consumers = (s.updateConsumer r.consumer map).consumers := by
  have hcongr : (((s.withRecords s.queue.records.tail).writeMoveEnd r o v).updateConsumer r.consumer map).consumers =
      (s.updateConsumer r.consumer map).consumers := by
    have hsame : ((s.withRecords s.queue.records.tail).writeMoveEnd r o v).consumers = s.consumers := by simp
    unfold State.updateConsumer
    rw [State.consumer?_congr hsame]
    split <;> simp [State.putConsumer]
  unfold State.endMove
  dsimp only
  split <;> simpa using hcongr

theorem EndsMove.refits {map : Consumer → Consumer} (h : EndsMove map) (c : Consumer) : c.Refits (map c) := by
  obtain ⟨ha, hs, -, hk⟩ := h.installed c
  obtain ⟨hf, hr⟩ := h.readings c
  exact ⟨⟨ha, hs, hk⟩, fun hc => by rwa [Consumer.ReadingsIn, hf, hr]⟩

theorem State.MapInRange.result {s : State} {count : Nat} (h : s.MapInRange count) (t : Txn) {res : TxnResult}
    (hres : res.InRange) : (s.result t res).MapInRange count := by
  have hrec : (s.resultOnRecord t res).MapInRange count := by
    obtain he | ⟨good, he⟩ | ⟨r, rfl, he⟩ := s.resultOnRecord_cases t res <;> rw [he]
    · exact h
    · exact h.scoreHealth ..
    · exact (h.scoreHealth ..).applyReply _ hres
  unfold State.result
  obtain he | ⟨r, -, -, ⟨r', -, he⟩ | ⟨o, w, map, found, hmap, he⟩⟩ | he | ⟨p, -, -, he⟩ | ⟨-, he⟩ :=
    (s.resultOnRecord t res).resultOnClass_cases t res <;> rw [he]
  · exact hrec
  · exact hrec.congr rfl
  · exact (hrec.updateConsumer r.consumer hmap.refits).congr (State.endMove_consumers ..)
  · exact hrec.updateConsumer _ fun c => ⟨⟨rfl, rfl, rfl⟩, id⟩
  · exact hrec.congr (by simp)
  · exact hrec.congr rfl


/-! ### INSTALL CONSUMER and REMOVE CONSUMER (R20, R21) -/

/-- The unit address is free where no present record other than n's holds it (R20). -/
theorem State.addressTaken_eq_false {s : State} {n address : Nat} :
    s.addressTaken n address = false ↔ ∀ m c, s.consumer? m = some c → m ≠ n → c.address ≠ address := by
  simp only [State.addressTaken, List.any_eq_false, Bool.and_eq_true, bne_iff_ne, ne_eq, beq_iff_eq, not_and]
  exact State.forall_present (p := fun x => ¬x.1 = n → ¬x.2.address = address)

theorem State.MapInRange.install {s : State} {count n : Nat} {c : Consumer} (h : s.MapInRange count) (hn : n < 96)
    (hc : (1 ≤ c.address ∧ c.address ≤ 126) ∧ c.segment < count ∧ c.cost ≤ 15 ∧ c.ReadingsIn)
    (hfree : s.addressTaken n c.address = false) : (s.putConsumer n (some c)).MapInRange count := by
  rw [State.addressTaken_eq_false] at hfree
  have hget (m : Nat) : (s.putConsumer n (some c)).consumer? m = if m = n then some c else s.consumer? m := by
    rw [State.consumer?_putConsumer]
    simp [h.length, hn]
  refine ⟨by simpa using h.length, fun m d hd => ?_, fun m k d e hd he hde => ?_⟩
  · rw [hget] at hd
    split at hd
    · cases hd
      exact hc
    · exact h.installed m d hd
  · rw [hget] at hd he
    split at hd <;> split at he
    · next hm hk => exact hm.trans hk.symm
    · next hk =>
      cases hd
      exact absurd hde.symm (hfree k e he hk)
    · next hm _ =>
      cases he
      exact absurd hde (hfree m d hd hm)
    · exact h.unique m k d e hd he hde

theorem State.MapInRange.removeAt {s : State} {count : Nat} (h : s.MapInRange count) (n : Nat) :
    (s.putConsumer n none).MapInRange count := by
  refine h.refit (by simp) fun m d hd => ?_
  rw [State.consumer?_putConsumer] at hd
  split at hd
  · cases hd
  · exact ⟨d, hd, ⟨rfl, rfl, rfl⟩, id⟩

/-- The map after a removal (R21). -/
theorem State.remove_consumers (s : State) (n : Nat) : (s.remove n).consumers = s.consumers.set n none := by
  simp [State.remove]
  rfl

/-- The mark of a replaced record leaves the round in hand in range. -/
theorem Engine.markReplaced_wf {e : Engine} (h : ∀ w ∈ e.work, w.wf) (n : Nat) :
    ∀ w ∈ (e.markReplaced n).work, w.wf := by
  intro w hw
  simp only [Engine.markReplaced, Option.mem_def, Option.map_eq_some_iff] at hw
  obtain ⟨v, hv, rfl⟩ := hw
  exact h v hv

/-! ### The segment table (R24, R25, R28, R31, R32) -/

theorem SegTable.Sound.set {t : SegTable} (h : t.Sound) (k : Nat) {r : Segment} (hr : 10 ≤ r.limit ∧ r.limit ≤ 1000)
    (hfrozen : t.count ≤ k → r.frozenAt = none) : SegTable.Sound { t with segments := t.segments.set k r } where
  count := h.count
  length := by simpa using h.length
  segment i q hq := by
    rw [List.getElem?_set] at hq
    split at hq
    · next hi =>
      split at hq
      · cases hq
        exact ⟨hr, fun hc => hfrozen (hi ▸ hc)⟩
      · cases hq
    · exact h.segment i q hq
  head := h.head

/-- The record read on a segment of a sound table. -/
theorem State.segment_sound {s : State} (h : s.segs.Sound) (k : Nat) :
    (10 ≤ (s.segment k).limit ∧ (s.segment k).limit ≤ 1000) ∧ (s.segs.count ≤ k → (s.segment k).frozenAt = none) := by
  cases hk : s.segs.segments[k]? with
  | none =>
    have hreset : s.segment k = Segment.reset := by simp [State.segment, List.getD_eq_getElem?_getD, hk]
    rw [hreset]
    exact ⟨by decide, fun _ => rfl⟩
  | some r =>
    rw [State.segment_of_getElem? hk]
    exact h.segment k r hk

/-- A table with a new count, beyond which no freeze stands (R24). -/
theorem SegTable.Sound.recount {t : SegTable} (h : t.Sound) {c : Nat} (hc : 1 ≤ c ∧ c ≤ 8)
    (hfree : ((t.frozenSet.drop c).any id) = false) : SegTable.Sound { t with count := c } where
  count := hc
  length := h.length
  segment i r hr := by
    refine ⟨(h.segment i r hr).1, fun hi => ?_⟩
    simp only [SegTable.frozenSet, List.any_eq_false, List.mem_iff_getElem?, List.getElem?_drop, List.getElem?_map] at hfree
    have hr' := hfree r.frozenAt.isSome ⟨i - c, by simp [Nat.add_sub_cancel' hi, hr]⟩
    simpa using hr'
  head := h.head

/-- New records on the segments, each with a limit in range and no freeze beyond those that stand. -/
theorem SegTable.Sound.remap {t : SegTable} (h : t.Sound) {segments : List Segment} {head : Option HeadReport}
    (hlen : segments.length = t.segments.length) (hsegment : ∀ (i : Nat) (r : Segment), segments[i]? = some r →
      ∃ q, t.segments[i]? = some q ∧ r.limit = q.limit ∧ (q.frozenAt = none → r.frozenAt = none))
    (hhead : ∀ x ∈ head, HeadReport.wf x) : SegTable.Sound { t with segments := segments, head := head } where
  count := h.count
  length := hlen.trans h.length
  segment i r hr := by
    obtain ⟨q, hq, hlimit, hfrozen⟩ := hsegment i r hr
    obtain ⟨hl, hf⟩ := h.segment i q hq
    exact ⟨hlimit ▸ hl, fun hc => hfrozen (hf hc)⟩
  head := hhead

/-- A head component is in range (R32). -/
theorem headComponent_bounds (v : BitVec 16) : -20000 ≤ headComponent v ∧ headComponent v ≤ 20000 :=
  clampInt_bounds (by decide) _

/-! ### The policy (R35, R36) -/

theorem policyClamp_bounds {f : Nat} (hf : f < 20) (v : Nat) :
    (policyRange f).1 ≤ policyClamp f v ∧ policyClamp f v ≤ (policyRange f).2 := by
  have hle := policyRange_le f hf
  rw [policyClamp, clampNat_eq hle]
  omega

theorem Policy.wf_put {q : Policy} (h : q.wf) {f : Nat} (hf : f < 20) (v : Nat) :
    (q.put f (policyClamp f v)).wf := by
  obtain ⟨hlen, hfields⟩ := h
  refine ⟨(Policy.put_weights_length ..).trans hlen, fun g hg => ?_⟩
  rw [Policy.field_put hlen hf (List.mem_range.1 hg)]
  split
  · next he => exact he ▸ policyClamp_bounds hf v
  · exact hfields g hg

theorem Policy.default_wf : Policy.default.wf := by decide

/-! ### The round in hand (R15, R40, R67) -/

/-- The readings that a latch freezes are in range where the latest are (R15). -/
theorem Consumer.refits_latched (c : Consumer) : c.Refits c.latched := by
  refine ⟨⟨rfl, rfl, rfl⟩, fun ⟨_, hr⟩ => ⟨?_, hr⟩⟩
  cases hreading : c.reading with
  | none => simp [Consumer.latched, hreading]
  | some r => simpa [Consumer.latched, hreading] using hr

theorem State.MapInRange.latchCounted {s : State} {count : Nat} (h : s.MapInRange count) :
    s.latchCounted.MapInRange count := by
  have hround : s.latchCommit.latchRound.MapInRange count := h.congr (by simp)
  unfold State.latchCounted State.latchWindow
  split
  · refine State.MapInRange.mapConsumers ?_ fun _ => ⟨⟨rfl, rfl, rfl⟩, id⟩
    exact hround.congr rfl
  · exact hround.congr rfl

theorem State.MapInRange.latchHolds {s : State} {count : Nat} (h : s.MapInRange count) :
    s.latchHolds.MapInRange count := by
  refine h.mapConsumers fun c => ?_
  split <;> exact ⟨⟨rfl, rfl, rfl⟩, id⟩

theorem State.workingSet_wf {s : State} (hmap : s.MapInRange s.segs.count) (hsegs : s.segs.Sound)
    (hactive : s.policy.active.wf) : s.workingSet.wf := by
  refine ⟨?_, ?_, hsegs.count.2, hactive, hsegs.head⟩
  · simpa [State.workingSet, hmap.length] using s.present_length_le
  · simp only [State.workingSet, List.forall_mem_map]
    exact State.forall_present.2 fun n c hc => (hmap.installed n c hc).2.2.2.1

theorem State.latch_feederWf {s : State} (h : s.feederWf) : s.latch.feederWf := by
  rw [State.feederWf_iff] at h ⊢
  obtain ⟨hmap, hsegs, ⟨hstaged, hactive⟩, -⟩ := h
  have hpolicy : s.latch.policy.staged.wf ∧ s.latch.policy.active.wf := by
    rw [State.latch_policy]
    split
    · exact ⟨hstaged, hstaged⟩
    · exact ⟨hstaged, hactive⟩
  have hbefore : ((s.latchCounted.latchHolds.latchQueue).mapConsumers Consumer.latched).MapInRange s.segs.count :=
    (hmap.latchCounted.latchHolds.congr (by simp)).mapConsumers Consumer.refits_latched
  have hframe : s.latch.segs = s.segs := by simp
  refine ⟨hframe ▸ hbefore.congr rfl, hframe ▸ hsegs, hpolicy, ?_⟩
  rintro w ⟨⟩
  have hcopied : ((s.latchCounted.latchHolds.latchQueue).mapConsumers Consumer.latched).segs = s.segs := by
    simp [State.latchCounted]
  exact State.workingSet_wf (hcopied ▸ hbefore) (hcopied ▸ hsegs) hpolicy.2

theorem State.takeExpiry_feederWf {s : State} (h : s.feederWf) : s.takeExpiry.feederWf := by
  unfold State.takeExpiry
  dsimp only
  split
  · exact h
  · exact State.latch_feederWf h

/-- Publication changes the results alone (R26). -/
theorem WorkingSet.publish_getElem? (w : WorkingSet) (segs : List Segment) (i : Nat) :
    (w.publish segs)[i]? =
      segs[i]?.map fun r => { r with result := if i < w.count then some (w.segResult i) else none } := by
  simp [WorkingSet.publish, List.getElem?_zipIdx, Function.comp_def]

theorem State.complete_segs (s : State) (w : WorkingSet) :
    (s.complete w).segs = { s.segs with segments := w.publish s.segs.segments } := by
  unfold State.complete
  dsimp only
  split <;> simp

theorem State.complete_work (s : State) (w : WorkingSet) : (s.complete w).engine.work = none := by
  unfold State.complete
  dsimp only
  split <;> rfl

theorem State.complete_feederWf {s : State} (h : s.feederWf) (w : WorkingSet) : (s.complete w).feederWf := by
  rw [State.feederWf_iff] at h ⊢
  obtain ⟨hmap, hsegs, hpolicy, -⟩ := h
  rw [State.complete_segs, State.complete_work]
  simp only [State.complete_frame]
  refine ⟨hmap.congr (by simp), hsegs.remap (by simp [WorkingSet.publish]) (fun i r hr => ?_) hsegs.head, hpolicy, nofun⟩
  rw [WorkingSet.publish_getElem?, Option.map_eq_some_iff] at hr
  obtain ⟨q, hq, rfl⟩ := hr
  exact ⟨q, hq, rfl, id⟩

/-! ### Resets (R179) -/

theorem State.warm_feederWf {s : State} (h : s.feederWf) : s.warm.feederWf := by
  rw [State.feederWf_iff] at h ⊢
  obtain ⟨hmap, hsegs, hpolicy, -⟩ := h
  refine ⟨?_, hsegs.remap (by simp) (fun i r hr => ?_) nofun, hpolicy, nofun⟩
  · exact (hmap.mapConsumers (f := Consumer.warm) fun c => ⟨⟨rfl, rfl, rfl⟩, fun _ => ⟨by simp [Consumer.warm], nofun⟩⟩).congr rfl
  · rw [List.getElem?_map, Option.map_eq_some_iff] at hr
    obtain ⟨q, hq, rfl⟩ := hr
    exact ⟨q, hq, rfl, fun _ => rfl⟩


theorem State.reset_feederWf : State.reset.feederWf := by
  have hnone (n : Nat) : State.reset.consumer? n = none := by
    simp only [State.reset, State.consumer?, List.getElem?_replicate]
    split <;> rfl
  rw [State.feederWf_iff]
  refine ⟨⟨rfl, fun n c hc => ?_, fun m n c d hc => ?_⟩, ⟨by decide, rfl, fun i r hr => ?_, nofun⟩,
    ⟨Policy.default_wf, Policy.default_wf⟩, nofun⟩
  · simp [hnone] at hc
  · simp [hnone] at hc
  · have hr' := List.eq_of_mem_replicate (List.mem_of_getElem? hr)
    rw [hr']
    exact ⟨by decide, fun _ => rfl⟩

/-! ### The mains events on the Engine (R61) -/

/-- The Engine but for its round timer and the expiry that it may leave waiting. -/
def Engine.Ticked (e f : Engine) : Prop := f = { e with timer := f.timer, expiryDue := f.expiryDue }

theorem Engine.Ticked.refl (e : Engine) : e.Ticked e := rfl

theorem Engine.Ticked.trans {e f g : Engine} (hef : e.Ticked f) (hfg : f.Ticked g) : e.Ticked g := by
  rw [Engine.Ticked] at hef hfg ⊢
  rw [hfg, hef]

theorem State.cycleTick_ticked (s : State) : s.engine.Ticked s.cycleTick.engine := by
  simp only [State.cycleTick, State.sweepEnd_frame, Engine.tick]
  split <;> rfl

theorem State.edge_engine (s : State) (p : Phase) (stamp : Time) : (s.edge p stamp).engine = s.engine := by
  unfold State.edge
  dsimp only
  split <;> simp

theorem State.risingEdge_ticked (s : State) (p : Phase) (stamp : Time) :
    s.engine.Ticked (s.risingEdge p stamp).engine := by
  have htick := (s.edge p stamp).cycleTick_ticked
  rw [State.edge_engine] at htick
  rw [State.risingEdge_eq]
  split
  · exact htick
  · rw [State.edge_engine]
    exact .refl _

theorem State.acceptLevel_ticked (s : State) (p : Phase) : s.engine.Ticked (s.acceptLevel p).engine := by
  obtain he | ⟨level, he, -⟩ | ⟨c, -, -, he⟩ := s.acceptLevel_cases p <;> rw [he]
  · exact .refl _
  · exact .refl _
  · exact State.risingEdge_ticked _ p c

theorem State.takeDue_ticked (s : State) (d : MainsDue) : s.engine.Ticked (s.takeDue d).engine := by
  unfold State.takeDue
  split
  · cases d with
    | accept p => exact s.acceptLevel_ticked p
    | loss p => simpa using Engine.Ticked.refl _
    | tick => exact State.cycleTick_ticked _
  · exact .refl _

theorem State.changeMains_ticked (s : State) (m : MainsSettings) : s.engine.Ticked (s.changeMains m).engine :=
  State.takeAll_preserves (P := fun t => s.engine.Ticked t.engine) (fun _ _ h => h)
    (fun t d h => h.trans (t.takeDue_ticked d)) (s := { s with mtu := { s.mtu with settings := m } }) (.refl _) _ _

/-! ### O57 -/

theorem State.feederWf_congr {s t : State} (hc : t.consumers = s.consumers) (hsegs : t.segs = s.segs)
    (hpolicy : t.policy = s.policy) (hwork : t.engine.work = s.engine.work) (h : s.feederWf) : t.feederWf := by
  rw [State.feederWf_iff] at h ⊢
  rw [hsegs, hpolicy, hwork]
  exact ⟨h.1.congr hc, h.2⟩

theorem State.feederWf_ticked {s t : State} (hc : t.consumers = s.consumers) (hsegs : t.segs = s.segs)
    (hpolicy : t.policy = s.policy) (hengine : s.engine.Ticked t.engine) (h : s.feederWf) : t.feederWf :=
  State.feederWf_congr hc hsegs hpolicy (by rw [hengine]) h

/-- A change of the map that keeps it in range keeps the feeder in range. -/
theorem State.feederWf_of_map {s t : State} (hmap : t.MapInRange s.segs.count) (hsegs : t.segs = s.segs)
    (hpolicy : t.policy = s.policy) (hwork : t.engine.work = s.engine.work) (h : s.feederWf) : t.feederWf := by
  rw [State.feederWf_iff] at h ⊢
  rw [hsegs, hpolicy, hwork]
  exact ⟨hmap, h.2⟩

theorem State.result_feederWf {s : State} (h : s.feederWf) (t : Txn) {res : TxnResult} (hres : res.InRange) :
    (s.result t res).feederWf :=
  State.feederWf_of_map (((State.feederWf_iff s).1 h).1.result t hres) (by simp) (by simp) (by simp) h

theorem State.install_feederWf {s : State} (h : s.feederWf) {n address segment allowed cost : Nat}
    (hrange : s.installInRange n address segment allowed cost = true) (hfree : s.addressTaken n address = false)
    (phases : PerPhase Bool) :
    ((s.putConsumer n (some (Consumer.installed address segment phases cost))).markReplaced n).feederWf := by
  simp only [State.installInRange, decide_eq_true_eq] at hrange
  obtain ⟨hn, haddress, hsegment, -, hcost⟩ := hrange
  rw [State.feederWf_iff] at h ⊢
  obtain ⟨hmap, hsegs, hpolicy, hwork⟩ := h
  have hfresh : (Consumer.installed address segment phases cost).ReadingsIn :=
    ⟨by simp [Consumer.installed], nofun⟩
  exact ⟨(hmap.install hn ⟨haddress, hsegment, hcost, hfresh⟩ hfree).congr rfl, hsegs, hpolicy,
    Engine.markReplaced_wf hwork n⟩

theorem State.remove_feederWf {s : State} (h : s.feederWf) (n : Nat) : (s.remove n).feederWf := by
  rw [State.feederWf_iff] at h ⊢
  obtain ⟨hmap, hsegs, hpolicy, hwork⟩ := h
  simp only [State.remove_frame]
  exact ⟨(hmap.removeAt n).congr (State.remove_consumers s n), hsegs, hpolicy, Engine.markReplaced_wf hwork n⟩

/-- A new count below which all consumers and freezes stand keeps the feeder in range (R24). -/
theorem State.recount_feederWf {s : State} (h : s.feederWf) {c : Nat} (hc : ¬(c < 1 ∨ Config.segments < c))
    (hfree : s.segmentInUse c = false) : ({ s with segs := { s.segs with count := c } } : State).feederWf := by
  rw [State.feederWf_iff] at h ⊢
  obtain ⟨⟨hlen, hmap, hunique⟩, hsegs, hpolicy, hwork⟩ := h
  simp only [State.segmentInUse, Bool.or_eq_false_iff, List.any_eq_false, decide_eq_true_eq, Nat.not_le] at hfree
  have hbelow := State.forall_present (p := fun x => x.2.segment < c).1 hfree.1
  have hrange : 1 ≤ c ∧ c ≤ 8 := by
    simp only [Config.segments] at hc
    omega
  refine ⟨⟨hlen, fun n d hd => ?_, hunique⟩, hsegs.recount hrange (by simpa using hfree.2), hpolicy, hwork⟩
  obtain ⟨haddress, -, hrest⟩ := hmap n d hd
  exact ⟨haddress, hbelow n d hd, hrest⟩

/-- A segment record with its limit in range, and frozen only below the count, keeps the feeder in range. -/
theorem State.putSegment_feederWf {s : State} (h : s.feederWf) (k : Nat) {r : Segment}
    (hr : 10 ≤ r.limit ∧ r.limit ≤ 1000) (hfrozen : s.segs.count ≤ k → r.frozenAt = none) :
    (s.putSegment k r).feederWf := by
  rw [State.feederWf_iff] at h ⊢
  exact ⟨h.1.congr rfl, h.2.1.set k hr hfrozen, h.2.2⟩

theorem State.policy_feederWf {s : State} (h : s.feederWf) {policy : PolicyStore} (hp : policy.staged.wf)
    (ha : policy.active.wf) : ({ s with policy := policy } : State).feederWf := by
  rw [State.feederWf_iff] at h ⊢
  exact ⟨h.1.congr rfl, h.2.1, ⟨hp, ha⟩, h.2.2.2⟩

theorem State.removeQueued_feederWf {s : State} (h : s.feederWf) (which : MoveRecord → Bool) (o : Outcome) :
    (s.removeQueued which o).feederWf :=
  State.feederWf_congr (by simp) (by simp) (by simp) (by simp) h

/-- Every command keeps the feeder in range. -/
theorem exec_feederWf {i : Instr} {s t : State} (hs : s.feederWf) (h : exec i s = .next t) : t.feederWf := by
  have hanswer (p : Port) (t : State) (w : Window) (ht : t.feederWf) : (t.setWindow p w).feederWf := ht
  obtain ⟨hmap, hsegs, ⟨hstaged, hactive⟩, -⟩ := (State.feederWf_iff s).1 hs
  have hsegment := State.segment_sound hsegs
  cases i with
  | powerOnReset u =>
    cases h
    exact State.feederWf_congr rfl rfl rfl rfl State.reset_feederWf
  | warmReset u =>
    cases h
    split
    · exact State.warm_feederWf (s := s.at u) hs
    · exact hs
  | selectWindowClose p u =>
    cases h
    unfold State.closeWindow
    dsimp only
    split
    · exact State.warm_feederWf (s := (s.at u).setWindow p .closed) hs
    · exact hs
  | unknownRequest p code rest =>
    obtain hnext | ⟨r, hnext⟩ := execUnknownRequest_cases p code rest s <;> cases hnext.symm.trans h
    · exact hs
    · exact State.request_preserves (P := State.feederWf) hs (hanswer p) fun _ => hs
  | installConsumer p n address segment allowed cost =>
    cases h
    refine State.request_preserves (P := State.feederWf) hs (hanswer p) fun _ => ?_
    split; · exact hs
    split; · exact hs
    next hrange =>
    split; · exact hs
    split; · exact hs
    split; · exact hs
    next hfree => exact State.install_feederWf hs (by simpa using hrange) (by simpa using hfree) _
  | removeConsumer p n =>
    cases h
    refine State.request_preserves (P := State.feederWf) hs (hanswer p) fun _ => ?_
    (repeat' split) <;> first | exact hs | exact State.remove_feederWf hs _
  | setSegmentCount p c =>
    cases h
    refine State.request_preserves (P := State.feederWf) hs (hanswer p) fun _ => ?_
    split; · exact hs
    split; · exact hs
    next hc =>
    split; · exact hs
    split; · exact hs
    next hfree => exact State.recount_feederWf hs hc (by simpa using hfree)
  | installSegment p k limit =>
    cases h
    refine State.request_preserves (P := State.feederWf) hs (hanswer p) fun _ => ?_
    split; · exact hs
    split; · exact hs
    split; · exact hs
    refine State.putSegment_feederWf hs _ ?_ (hsegment k.toNat).2
    dsimp only
    rw [clampNat_eq (by decide)]
    omega
  | freeze p k =>
    cases h
    refine State.request_preserves (P := State.feederWf) hs (hanswer p) fun _ => ?_
    split; · exact hs
    split; · exact hs
    next hk =>
    dsimp only
    refine State.removeQueued_feederWf ?_ ..
    refine State.putSegment_feederWf hs _ ?_ ?_
    · exact (hsegment k.toNat).1
    · exact fun hc => absurd hc hk
  | thaw p k =>
    cases h
    refine State.request_preserves (P := State.feederWf) hs (hanswer p) fun _ => ?_
    split; · exact hs
    split; · exact hs
    exact State.putSegment_feederWf hs _ (hsegment k.toNat).1 fun _ => rfl
  | headReport p x1 y1 x2 y2 x3 y3 =>
    cases h
    refine State.request_preserves (P := State.feederWf) hs (hanswer p) fun _ => ?_
    split; · exact hs
    rw [State.feederWf_iff] at hs ⊢
    refine ⟨hs.1.congr rfl, ⟨hsegs.count, hsegs.length, hsegs.segment, ?_⟩, hs.2.2⟩
    rintro _ ⟨⟩ q -
    cases q <;> exact ⟨headComponent_bounds _, headComponent_bounds _⟩
  | writePolicy p f v =>
    cases h
    refine State.request_preserves (P := State.feederWf) hs (hanswer p) fun _ => ?_
    split; · exact hs
    split; · exact hs
    next hf => exact State.policy_feederWf hs (Policy.wf_put hstaged (Nat.not_le.1 hf) _) hactive
  | commitPolicy p =>
    cases h
    refine State.request_preserves (P := State.feederWf) hs (hanswer p) fun _ => ?_
    split; · exact hs
    split
    · exact State.policy_feederWf hs hstaged hstaged
    · exact State.policy_feederWf hs hstaged hactive
  | discardPolicy p =>
    cases h
    refine State.request_preserves (P := State.feederWf) hs (hanswer p) fun _ => ?_
    split; · exact hs
    exact State.policy_feederWf hs hactive hactive
  | hold p n d =>
    cases h
    refine State.request_preserves (P := State.feederWf) hs (hanswer p) fun _ => ?_
    split; · exact hs
    split; · exact hs
    split; · exact hs
    refine State.removeQueued_feederWf ?_ ..
    exact State.feederWf_of_map (hmap.updateConsumer _ fun _ => ⟨⟨rfl, rfl, rfl⟩, id⟩) (by simp) (by simp) (by simp) hs
  | release p n =>
    cases h
    refine State.request_preserves (P := State.feederWf) hs (hanswer p) fun _ => ?_
    split; · exact hs
    split; · exact hs
    split; · exact hs
    exact State.feederWf_of_map (hmap.updateConsumer _ fun _ => ⟨⟨rfl, rfl, rfl⟩, id⟩) (by simp) (by simp) (by simp) hs
  | stop p =>
    cases h
    refine State.request_preserves (P := State.feederWf) hs (hanswer p) fun _ => ?_
    split; · exact hs
    split
    · exact hs
    · exact State.removeQueued_feederWf (by exact hs) ..
  | setBus p enable rate u =>
    cases h
    refine State.request_preserves (P := State.feederWf) hs (hanswer p) fun _ => ?_
    (repeat' split) <;> first
      | exact hs
      | exact State.changeBus_preserves (P := State.feederWf) (s := s.at u) (fun _ _ h => h)
          (fun _ t _ hres h => State.result_feederWf h t hres) hs ..
  | setMains p f band tol settle qualify u =>
    cases h
    refine State.request_preserves (P := State.feederWf) hs (hanswer p) fun _ => ?_
    (repeat' split) <;> first
      | exact hs
      | exact State.feederWf_ticked (s := s.at u) (by simp) (by simp) (by simp) (State.changeMains_ticked _ _) hs
  | qualifyTimeExpiry p u =>
    cases h
    exact State.event_preserves (P := State.feederWf) hs fun _ _ =>
      State.feederWf_ticked (s := s.at u) (by simp) (by simp) (by simp) (State.acceptLevel_ticked _ p) hs
  | internalTick u =>
    cases h
    exact State.event_preserves (P := State.feederWf) hs fun _ _ =>
      State.feederWf_ticked (s := s.at u) (by simp) (by simp) (by simp) (State.cycleTick_ticked _) hs
  | resetnLow | lossExpiry =>
    cases h
    exact State.event_preserves (P := State.feederWf) hs fun _ _ =>
      State.feederWf_congr (by simp) (by simp) (by simp) (by simp) hs
  | roundTimerExpiry | windowExpiry | holdExpiry | expired =>
    cases h
    exact State.event_preserves (P := State.feederWf) hs fun _ _ => State.takeExpiry_feederWf hs
  | completion =>
    cases h
    split
    · exact State.event_preserves (P := State.feederWf) hs fun _ _ => State.complete_feederWf hs _
    · exact hs
  | issueGrant | recheckGrant =>
    cases h
    split
    · refine State.event_preserves (P := State.feederWf) hs fun _ _ => ?_
      refine State.feederWf_of_map ?_ (by simp) (by simp) (by simp) hs
      simp only [State.grantIssue, State.grantRecheck]
      refine State.MapInRange.updateConsumer ?_ _ ?_
      · exact hmap.congr rfl
      · exact fun _ => ⟨⟨rfl, rfl, rfl⟩, id⟩
    · exact hs
  | repeatDue | switchingWaitEnd | confirmRetryDue | confirmGrant | queryGrant | sweepGrant =>
    cases h
    split
    · exact State.event_preserves (P := State.feederWf) hs fun _ _ =>
        State.feederWf_congr (by simp) (by simp) (by simp) (by simp) hs
    · exact hs
  | requestSent | contention | foreignTalker | quietLimit | quietTimeEnd | joinWaitComplete | noReply | gap
  | replyFailed | state | answer | frxAtSpace =>
    exact exec_line_preserves (P := State.feederWf) (fun _ _ h => h)
      (fun _ t _ hres h => State.result_feederWf h t hres) (fun _ _ h => h) rfl hs h
  | selectWindowOpen | zcPinChange =>
    cases h
    exact State.feederWf_congr (by simp) (by simp) (by simp) (by simp) hs
  | _ =>
    cases h
    refine State.request_preserves (P := State.feederWf) hs (hanswer _) fun _ => ?_
    (repeat' split) <;> exact State.feederWf_congr (s := s) (by simp) (by simp) (by simp) (by simp) hs

/-- Settles O57: the requests that install and set are checked, what is read or reported is clamped, and a latch copies
what is in range. -/
theorem everyStepKeepsTheFeederInRange : Obligations.EveryStepKeepsTheFeederInRange :=
  fun _ _ => step_preserves (P := State.feederWf) (fun _ _ h => h) fun _ _ _ => exec_feederWf

end Sys2Proof.Machine


/-! PROOFS. What every command keeps of the Transaction Arbiter (08_bus_scheduling_and_unit_health.md): its counts, the query
slots, the arrival order, and the transaction in progress. -/

namespace Sys2Proof.Machine

/-! ### A sound Arbiter in parts -/

/-- The port that a transaction serves, with the consumer (R151). -/
def Txn.serves (t : Txn) : Option (Port × Nat) := t.port.map fun p => (p, t.consumer)

/-- A sound transaction: a sweep and a query are for a consumer number, and a query alone has a port. -/
structure Txn.Sound (t : Txn) : Prop where
  consumer : t.cls = .sweep ∨ t.cls = .query → t.consumer < 96
  port : t.port ≠ none ↔ t.cls = .query

/-- The slot of a port agrees with the arrival order and the query served (R149, R151). -/
def Arbiter.Agrees (a : Arbiter) (served : Option (Port × Nat)) (p : Port) : Prop :=
  match (a.slots.get p).stage with
  | .idle => p ∉ a.order ∧ ∀ n, served ≠ some (p, n)
  | .waiting m => p ∈ a.order ∧ (∀ n, served ≠ some (p, n)) ∧ m < 96
  | .inProgress n => p ∉ a.order ∧ served = some (p, n)

/-- A sound Arbiter beside the transaction in progress (R144, R146, R149, R151). -/
structure Arbiter.Sound (a : Arbiter) (txn : Option Txn) (held : Bool) : Prop where
  starvation : a.starvation ≤ 6
  pointer : a.pointer ≤ 96
  sweepCount : a.sweepCount ≤ 7
  running : ∀ t ∈ txn, t.Sound
  order : a.order.Nodup
  slots : held = false → ∀ p, a.Agrees (txn.bind Txn.serves) p

theorem State.served_eq (s : State) : s.served = s.txn?.bind Txn.serves := by
  unfold State.served
  cases s.txn? <;> rfl

theorem State.slotWf_iff (s : State) (p : Port) : s.slotWf p = true ↔ s.arb.Agrees s.served p := by
  have hnone : (s.served.map (·.1)) ≠ some p ↔ ∀ n, s.served ≠ some (p, n) := by
    cases h : s.served with
    | none => simp
    | some x =>
      obtain ⟨q, m⟩ := x
      simp only [Option.map_some, ne_eq, Option.some.injEq, Prod.mk.injEq, not_and]
      exact ⟨fun hq n he => absurd he hq, fun hq he => hq m he rfl⟩
  unfold State.slotWf Arbiter.Agrees
  cases (s.arb.slots.get p).stage <;> simp [and_assoc, ← hnone, -Option.map_eq_some_iff]

theorem State.arbiterWf_iff (s : State) :
    s.arbiterWf ↔ s.consumers.length = 96 ∧ s.arb.Sound s.txn? s.held := by
  have hslots : (∀ p ∈ [Port.a, .b, .c], s.slotWf p = true) ↔ ∀ p, s.arb.Agrees (s.txn?.bind Txn.serves) p := by
    simp only [State.slotWf_iff, State.served_eq]
    exact ⟨fun h p => h p (by cases p <;> simp), fun h p _ => h p⟩
  simp only [State.arbiterWf, hslots]
  constructor
  · rintro ⟨hlen, hstarvation, hpointer, hcount, htxn, horder, hslots⟩
    exact ⟨hlen, hstarvation, hpointer, hcount, fun t ht => ⟨(htxn t ht).1, (htxn t ht).2⟩, horder, hslots⟩
  · rintro ⟨hlen, hstarvation, hpointer, hcount, htxn, horder, hslots⟩
    exact ⟨hlen, hstarvation, hpointer, hcount, fun t ht => ⟨(htxn t ht).1, (htxn t ht).2⟩, horder, hslots⟩

/-! ### Slots (R149 to R152) -/

/-- Replacing the slot of one port leaves the others in agreement, where the order and the served query stand for them as
before. -/
theorem Arbiter.Agrees.other {a b : Arbiter} {served served' : Option (Port × Nat)} {q : Port}
    (h : a.Agrees served q) (hslot : b.slots.get q = a.slots.get q) (horder : q ∈ b.order ↔ q ∈ a.order)
    (hserved : ∀ n, served' = some (q, n) ↔ served = some (q, n)) : b.Agrees served' q := by
  unfold Arbiter.Agrees at h ⊢
  rw [hslot]
  split at h <;> simp_all

/-- Who serves a query has its slot IN PROGRESS, out of the arrival order (R151). -/
theorem Arbiter.Agrees.inProgress {a : Arbiter} {p : Port} {n : Nat} (h : a.Agrees (some (p, n)) p) :
    (a.slots.get p).stage = .inProgress n ∧ p ∉ a.order := by
  unfold Arbiter.Agrees at h
  split at h <;> simp_all

/-- A transaction that serves no port may begin or end beside the slots. -/
theorem Arbiter.Sound.retxn {a : Arbiter} {txn txn' : Option Txn} {held : Bool} (h : a.Sound txn held)
    (hnew : ∀ t ∈ txn', t.Sound) (hserved : txn'.bind Txn.serves = txn.bind Txn.serves) : a.Sound txn' held where
  starvation := h.starvation
  pointer := h.pointer
  sweepCount := h.sweepCount
  running := hnew
  order := h.order
  slots hheld := by
    rw [hserved]
    exact h.slots hheld

theorem Arbiter.Sound.recount {a : Arbiter} {txn : Option Txn} {held : Bool} (h : a.Sound txn held)
    {starvation pointer sweepCount : Nat} (hs : starvation ≤ 6) (hp : pointer ≤ 96) (hc : sweepCount ≤ 7) :
    Arbiter.Sound { a with starvation := starvation, pointer := pointer, sweepCount := sweepCount } txn held where
  starvation := hs
  pointer := hp
  sweepCount := hc
  running := h.running
  order := h.order
  slots := h.slots

/-- A query in progress that completes leaves its slot IDLE (R151, R152). -/
theorem Arbiter.Sound.completed {a : Arbiter} {t : Txn} (h : a.Sound (some t) false) {p : Port} (hp : t.port = some p)
    (result : Option QueryResult) :
    Arbiter.Sound { a with slots := a.slots.set p ⟨.idle, result⟩ } none false where
  starvation := h.starvation
  pointer := h.pointer
  sweepCount := h.sweepCount
  running := nofun
  order := h.order
  slots _ q := by
    have hserves : (some t).bind Txn.serves = some (p, t.consumer) := by simp [Txn.serves, hp]
    have hq := h.slots rfl q
    rw [hserves] at hq
    by_cases hqp : q = p
    · subst hqp
      simp [Arbiter.Agrees, hq.inProgress.2]
    · exact hq.other (by simp [hqp]) Iff.rfl (by simp [Ne.symm hqp])

/-- A query in progress that is abandoned waits again, at the head of the arrival order (R151). -/
theorem Arbiter.Sound.requeued {a : Arbiter} {t : Txn} (h : a.Sound (some t) false) {p : Port} (hp : t.port = some p)
    (result : Option QueryResult) :
    Arbiter.Sound { a with slots := a.slots.set p ⟨.waiting t.consumer, result⟩, order := p :: a.order } none false where
  starvation := h.starvation
  pointer := h.pointer
  sweepCount := h.sweepCount
  running := nofun
  order := by
    have hq := h.slots rfl p
    rw [show (some t).bind Txn.serves = some (p, t.consumer) by simp [Txn.serves, hp]] at hq
    exact List.nodup_cons.2 ⟨hq.inProgress.2, h.order⟩
  slots _ q := by
    have ht := h.running t rfl
    have hserves : (some t).bind Txn.serves = some (p, t.consumer) := by simp [Txn.serves, hp]
    have hq := h.slots rfl q
    rw [hserves] at hq
    by_cases hqp : q = p
    · subst hqp
      simp [Arbiter.Agrees, ht.consumer (.inr (ht.port.1 (by simp [hp])))]
    · exact hq.other (by simp [hqp]) (by simp [hqp]) (by simp [Ne.symm hqp])

/-- A query asked for joins the arrival order (R150). -/
theorem Arbiter.Sound.asked {a : Arbiter} {txn : Option Txn} (h : a.Sound txn false) {p : Port} {n : Nat}
    (hidle : (a.slots.get p).stage = .idle) (hn : n < 96) (result : Option QueryResult) :
    Arbiter.Sound { a with slots := a.slots.set p ⟨.waiting n, result⟩, order := a.order ++ [p] } txn false where
  starvation := h.starvation
  pointer := h.pointer
  sweepCount := h.sweepCount
  running := h.running
  order := by
    have hp := h.slots rfl p
    simp only [Arbiter.Agrees, hidle] at hp
    simpa [List.nodup_append, h.order] using fun q hq (hqp : q = p) => hp.1 (hqp ▸ hq)
  slots _ q := by
    have hq := h.slots rfl q
    by_cases hqp : q = p
    · subst hqp
      simp only [Arbiter.Agrees, hidle] at hq
      simp [Arbiter.Agrees, hq.2, hn]
    · exact hq.other (by simp [hqp]) (by simp [hqp]) (by simp)

/-- A query granted leaves the head of the arrival order, its slot IN PROGRESS (R151). -/
theorem Arbiter.Sound.granted {a : Arbiter} (h : a.Sound none false) {p : Port} {rest : List Port}
    (horder : a.order = p :: rest) {t : Txn} (ht : t.Sound) (hp : t.port = some p) (result : Option QueryResult) :
    Arbiter.Sound { a with slots := a.slots.set p ⟨.inProgress t.consumer, result⟩, order := rest } (some t) false where
  starvation := h.starvation
  pointer := h.pointer
  sweepCount := h.sweepCount
  running := by
    rintro _ ⟨⟩
    exact ht
  order := (List.nodup_cons.1 (horder ▸ h.order)).2
  slots _ q := by
    have hserves : (some t).bind Txn.serves = some (p, t.consumer) := by simp [Txn.serves, hp]
    have hq := h.slots rfl q
    rw [hserves]
    by_cases hqp : q = p
    · subst hqp
      simp [Arbiter.Agrees, (List.nodup_cons.1 (horder ▸ h.order)).1]
    · exact hq.other (by simp [hqp]) (by simp [horder, hqp]) (by simp [Ne.symm hqp])

/-- A WAITING query dropped leaves the arrival order, its slot IDLE (R152). -/
theorem Arbiter.Sound.dropped {a : Arbiter} {txn : Option Txn} (h : a.Sound txn false) {p : Port} {n : Nat}
    (hwaiting : (a.slots.get p).stage = .waiting n) (result : Option QueryResult) :
    Arbiter.Sound { a with slots := a.slots.set p ⟨.idle, result⟩, order := a.order.filter (· != p) } txn false where
  starvation := h.starvation
  pointer := h.pointer
  sweepCount := h.sweepCount
  running := h.running
  order := h.order.filter _
  slots _ q := by
    have hq := h.slots rfl q
    by_cases hqp : q = p
    · subst hqp
      simp only [Arbiter.Agrees, hwaiting] at hq
      simp [Arbiter.Agrees, hq.2.1]
    · exact hq.other (by simp [hqp]) (by simp [hqp]) (by simp)

/-! ### The transaction in progress (R127) -/

theorem State.txn?_congr {s t : State} (h : t.fbc.link = s.fbc.link) : t.txn? = s.txn? := by
  simp [State.txn?, h]

theorem State.arbiterWf_congr {s t : State} (hlen : t.consumers.length = s.consumers.length) (harb : t.arb = s.arb)
    (htxn : t.txn? = s.txn?) (hheld : t.held = s.held) (h : s.arbiterWf) : t.arbiterWf := by
  rw [State.arbiterWf_iff] at h ⊢
  rwa [hlen, harb, htxn, hheld]

/-- Activity on the line leaves the transaction in progress (R127). -/
@[simp] theorem State.spaceAt_txn? (s : State) (m : Time) : (s.spaceAt m).txn? = s.txn? := by
  rcases hlink : s.fbc.link with _ | _ | (_ | _ | _ | _ | _) <;> simp only [State.spaceAt, State.txn?, hlink] <;> rfl

theorem State.hear_txn? (s : State) (cs : List RxChar) : (s.hear cs).txn? = s.txn? := by
  unfold State.hear
  split
  · exact s.spaceAt_txn? _
  · rfl

theorem State.spaceNow_txn? (s : State) : s.spaceNow.txn? = s.txn? := by
  unfold State.spaceNow
  split
  · next hlink =>
    split
    · simp only [State.txn?, State.putLink, hlink]
    · rfl
  · exact s.spaceAt_txn? _

theorem State.requestSent_txn? (s : State) (echo : List (Option RxChar)) : (s.requestSent echo).txn? = s.txn? := by
  unfold State.requestSent
  split
  · next hlink =>
    split
    · simp only [State.txn?, State.putLink, State.setFrx, hlink]
    · rfl
  · rfl

/-- Installing or removing a record marks the transaction in progress, and changes nothing else of it (R3). -/
theorem State.markReplaced_txn? (s : State) (n : Nat) :
    (s.markReplaced n).txn? = s.txn?.map fun t => if t.consumer = n then { t with sameRecord := false } else t := by
  rcases hlink : s.fbc.link with _ | _ | (_ | _ | _ | _ | _) <;>
    simp only [State.markReplaced, State.txn?, hlink] <;> rfl

/-- The timers of the line run in QUIET and JOINING, where no transaction is in progress (R126, R127, R130). -/
theorem State.txn?_of_timer {s : State}
    (h : s.quietLimitReached = true ∨ s.quietEnded = true ∨ s.joined = true) : s.txn? = none := by
  rcases hlink : s.fbc.link with _ | _ | (_ | _ | _ | _ | _) <;>
    simp only [State.quietLimitReached, State.quietEnded, State.joined, hlink, State.txn?] at h ⊢
  all_goals simp at h

/-! ### Results (R145, R147, R151, R152) -/

theorem State.resultOnRecord_length (s : State) (t : Txn) (res : TxnResult) :
    (s.resultOnRecord t res).consumers.length = s.consumers.length := by
  have hscore (good : Bool) : (s.scoreHealth t.consumer good).consumers.length = s.consumers.length := by
    unfold State.scoreHealth
    split
    · dsimp only
      split <;> simp
    · rfl
  obtain he | ⟨good, he⟩ | ⟨r, -, he⟩ := s.resultOnRecord_cases t res <;> rw [he]
  · exact hscore good
  · obtain ⟨-, he⟩ | ⟨c, -, he | ⟨b, p, cause, he⟩⟩ := (s.scoreHealth t.consumer true).applyReply_cases t.consumer r <;>
      rw [he] <;> simp [hscore]

theorem State.result_length (s : State) (t : Txn) (res : TxnResult) :
    (s.result t res).consumers.length = s.consumers.length := by
  have hrec := s.resultOnRecord_length t res
  unfold State.result
  obtain he | ⟨r, -, -, ⟨r', -, he⟩ | ⟨o, w, map, found, -, he⟩⟩ | he | ⟨p, -, -, he⟩ | ⟨-, he⟩ :=
    (s.resultOnRecord t res).resultOnClass_cases t res <;> rw [he]
  · exact hrec
  · exact hrec
  · simpa [State.endMove_consumers] using hrec
  · simpa using hrec
  · simpa using hrec
  · exact hrec

/-- Only a query and an abandoned sweep tell the Arbiter's own registers of their result (R147, R151). -/
theorem State.resultOnClass_arb (s : State) (t : Txn) (res : TxnResult) (hquery : t.cls ≠ .query) :
    (s.resultOnClass t res).arb =
      if t.cls = .sweep ∧ res.isAbandoned = true then { s.arb with pointer := t.consumer } else s.arb := by
  obtain he | ⟨r, -, -, ⟨r', -, he⟩ | ⟨o, w, map, found, -, he⟩⟩ | he | ⟨p, hcls, -, he⟩ | ⟨hcls, he⟩ :=
    s.resultOnClass_cases t res
  case inr.inr.inr.inl => exact absurd hcls hquery
  all_goals
    cases hcls' : t.cls
    case sweep => simp only [State.resultOnClass, hcls', true_and]; split <;> rfl
    case query => exact absurd hcls' hquery
    all_goals simp_all

/-- A poll's reply is no ANSWER (R132). -/
theorem replyResult_of_poll {t : Txn} {cs : List RxChar} {res : TxnResult} (h : replyResult t cs = some res)
    (hcls : t.cls ≠ .issue) (tag : Byte) (v : Verdict) (reported : Reported) : res ≠ .answer tag v reported := by
  rintro rfl
  unfold replyResult at h
  split at h <;> simp [hcls] at h

/-- The transaction in progress ends with a result: the link has left it, and its class takes the result (R145). -/
theorem State.result_arbiterWf {s u : State} (h : s.arbiterWf) (hheld : s.held = false) {t : Txn}
    (htxn : s.txn? = some t) (hlen : u.consumers = s.consumers) (harb : u.arb = s.arb) (hu : u.held = s.held)
    (hnone : u.txn? = none) {res : TxnResult}
    (hres : t.cls = .query → ∀ tag v reported, res ≠ .answer tag v reported) : (u.result t res).arbiterWf := by
  rw [State.arbiterWf_iff, htxn, hheld] at h
  obtain ⟨hl, hsound⟩ := h
  have ht := hsound.running t rfl
  rw [State.arbiterWf_iff, u.result_length, hlen, State.txn?_congr (s := u) (by simp), hnone]
  refine ⟨hl, ?_⟩
  rw [show (u.result t res).held = false by simp [hu, hheld]]
  have hrec : (u.resultOnRecord t res).arb = s.arb := by simp [harb]
  by_cases hquery : t.cls = .query
  · obtain ⟨p, hp⟩ := Option.ne_none_iff_exists'.1 (ht.port.2 hquery)
    simp only [State.result, State.resultOnClass, hquery, hp]
    cases res with
    | state | failed =>
      simp only [State.queryResult, State.completeQuery, State.raise_arb, State.putSlot, hrec]
      exact hsound.completed hp _
    | answer => exact absurd rfl (hres hquery _ _ _)
    | abandoned =>
      simp only [State.queryResult, State.queryAbandoned]
      split
      · simp only [State.completeQuery, State.raise_arb, State.putSlot, hrec]
        exact hsound.completed hp _
      · simp only [State.putSlot, hrec]
        exact hsound.requeued hp _
  · have hserves : (none : Option Txn).bind Txn.serves = (some t).bind Txn.serves := by
      have hport : t.port = none := by simpa using mt ht.port.1 hquery
      simp [Txn.serves, hport]
    have hended : s.arb.Sound none false := hsound.retxn nofun hserves
    rw [State.result, State.resultOnClass_arb _ _ _ hquery, hrec]
    split
    · next hsweep =>
      exact hended.recount hended.starvation (ht.consumer (.inl hsweep.1)).le hended.sweepCount
    · exact hended

theorem State.endTxn_arbiterWf {s : State} (h : s.arbiterWf) (hheld : s.held = false) {t : Txn} (htxn : s.txn? = some t)
    (frx : Line) {res : TxnResult} (hres : t.cls = .query → ∀ tag v reported, res ≠ .answer tag v reported) :
    ((s.setFrx frx).endTxn t res).arbiterWf :=
  State.result_arbiterWf (u := (s.setFrx frx).putLink (.online (.quiet s.time s.time))) h hheld htxn rfl rfl rfl rfl hres

theorem State.receive_arbiterWf {s : State} (h : s.arbiterWf) (hheld : s.held = false) (start : Time) (fits : Bool)
    (cs : List RxChar) : (s.receive start fits cs).arbiterWf := by
  obtain he | ⟨-, he⟩ | ⟨t, res, hreply, hres, he⟩ := s.receive_cases start fits cs <;> rw [he]
  · exact h
  · exact State.arbiterWf_congr (by simp) (by simp) (s.hear_txn? cs) (by simp) h
  · exact State.endTxn_arbiterWf h hheld (State.txn?_of_replyFrom hreply) _ fun hcls =>
      replyResult_of_poll hres (by simp [hcls])

theorem State.cutOff_arbiterWf {s u : State} (h : s.arbiterWf) (hheld : s.held = false) (hlen : u.consumers = s.consumers)
    (harb : u.arb = s.arb) (hu : u.held = s.held) (htxn : u.txn? = s.txn?) {l : Link}
    (hl : (u.putLink l).txn? = none) : (u.cutOff l).arbiterWf := by
  unfold State.cutOff
  split
  · next t ht =>
    exact State.result_arbiterWf (u := u.putLink l) h hheld (htxn ▸ ht) hlen harb hu hl (by simp)
  · next hnone =>
    exact State.arbiterWf_congr (congrArg _ hlen) harb (by rw [hl, ← htxn, hnone]) hu h

theorem State.changeBus_arbiterWf {s : State} (h : s.arbiterWf) (hheld : s.held = false) (enable : Bool)
    (rate : BitRate) : (s.changeBus enable rate).arbiterWf := by
  unfold State.changeBus
  dsimp only
  split
  · next l hl =>
    refine State.cutOff_arbiterWf (u := { s with fbc := { s.fbc with enabled := enable, rate := rate } }) h hheld rfl rfl rfl
      (State.txn?_congr rfl) ?_
    unfold State.linkAfter at hl
    (repeat' split at hl) <;> cases hl <;> rfl
  · exact State.arbiterWf_congr rfl rfl (State.txn?_congr rfl) rfl h

/-! ### Grants (R142, R144, R146, R151) -/

theorem State.txn?_of_busFree {s : State} (h : s.busFree = true) : s.txn? = none := by
  simp only [State.busFree, beq_iff_eq] at h
  simp [State.txn?, h]

/-- A sweep that is pending goes first when the starvation count has reached its limit, so a grant to another class leaves
the count within it (R144). -/
theorem State.starvationAfter_le {s : State} {c : TxnClass} (hgrant : s.grants c = true) : s.starvationAfter c ≤ 6 := by
  unfold State.starvationAfter
  split
  · exact Nat.zero_le _
  · next hsweep =>
    split
    · next hpending =>
      by_contra hlimit
      have hchoice : s.choice = some .sweep := if_pos (by
        rw [hpending, Bool.true_and, decide_eq_true_eq, Config.starvationLimit]
        omega)
      simp only [State.grants, hchoice, Bool.and_eq_true, beq_iff_eq, Option.some.injEq] at hgrant
      exact hsweep hgrant.2.symm
    · exact Nat.zero_le _

theorem State.begin_arbiterWf {s : State} (h : s.arbiterWf) {t : Txn} (hgrant : s.grants t.cls = true) (ht : t.Sound)
    (hport : t.port = none) : (s.begin t).arbiterWf := by
  have hfree : s.txn? = none := State.txn?_of_busFree (by simpa using (Bool.and_eq_true _ _ ▸ hgrant).1)
  rw [State.arbiterWf_iff, hfree] at h
  obtain ⟨hlen, hsound⟩ := h
  rw [State.arbiterWf_iff]
  refine ⟨hlen, Arbiter.Sound.retxn (txn := none) ?_ (by rintro _ ⟨⟩; exact ht) (by simp [State.begin, State.txn?, Txn.serves, hport])⟩
  exact hsound.recount (State.starvationAfter_le hgrant) hsound.pointer hsound.sweepCount

/-- A poll that is neither a query nor for a sweep is sound. -/
theorem Txn.sound_of_none {t : Txn} (hport : t.port = none) (hquery : t.cls ≠ .query)
    (hsweep : t.cls = .sweep → t.consumer < 96) : t.Sound where
  consumer := by
    rintro (h | h)
    · exact hsweep h
    · exact absurd h hquery
  port := by simp [hport, hquery]

theorem State.lt_of_find? {s : State} (hlen : s.consumers.length = 96) {q : Nat × Consumer → Bool} {n : Nat}
    {c : Consumer} (h : s.present.find? q = some (n, c)) : n < 96 :=
  hlen ▸ State.consumer?_lt (State.mem_present.1 (List.mem_of_find?_eq_some h))

theorem State.grantQuery_arbiterWf {s : State} (h : s.arbiterWf) (hheld : s.held = false) (hgrant : s.grants .query = true)
    {p : Port} {n : Nat} (hpending : s.queryPending = some (p, n)) : (s.grantQuery p n).arbiterWf := by
  have hfree : s.txn? = none := State.txn?_of_busFree (by simpa using (Bool.and_eq_true _ _ ▸ hgrant).1)
  rw [State.arbiterWf_iff, hfree, hheld] at h
  obtain ⟨hlen, hsound⟩ := h
  obtain ⟨rest, horder, hstage⟩ : ∃ rest, s.arb.order = p :: rest ∧ (s.arb.slots.get p).stage = .waiting n := by
    unfold State.queryPending at hpending
    split at hpending
    · next q rest horder =>
      split at hpending
      · next m hstage =>
        cases hpending
        exact ⟨rest, horder, hstage⟩
      · cases hpending
    · cases hpending
  have hn : n < 96 := by
    have hp := hsound.slots rfl p
    simp only [Arbiter.Agrees, hstage] at hp
    exact hp.2.2
  have ht : (s.poll .query n (some p)).Sound := ⟨fun _ => hn, by simp [State.poll]⟩
  rw [State.arbiterWf_iff]
  refine ⟨hlen, ?_⟩
  have hstarved := hsound.recount (State.starvationAfter_le hgrant) hsound.pointer hsound.sweepCount
  have hgranted := hstarved.granted (p := p) (rest := rest) horder ht rfl (s.arb.slots.get p).result
  have harb : (s.grantQuery p n).arb = { s.arb with
      starvation := s.starvationAfter .query
      slots := s.arb.slots.set p ⟨.inProgress n, (s.arb.slots.get p).result⟩
      order := rest } := by
    simp [State.grantQuery, State.begin, State.putSlot, horder, State.poll]
  rw [harb, (State.grantQuery_frame ..).2.1, hheld]
  exact hgranted

/-! ### Cycle ticks (R147) -/

theorem State.sweepEnd_arbiterWf {s : State} (h : s.arbiterWf) : s.sweepEnd.arbiterWf := by
  unfold State.sweepEnd
  split
  · rw [State.arbiterWf_iff] at h ⊢
    obtain ⟨hlen, hsound⟩ := h
    exact ⟨hlen, hsound.recount hsound.starvation (Nat.zero_le _) (Nat.le_of_lt_succ (Nat.mod_lt _ (by decide)))⟩
  · exact h

theorem State.cycleTick_arbiterWf {s : State} (h : s.arbiterWf) : s.cycleTick.arbiterWf :=
  State.sweepEnd_arbiterWf (by exact h)

theorem State.edge_arbiterWf {s : State} (h : s.arbiterWf) (p : Phase) (stamp : Time) : (s.edge p stamp).arbiterWf := by
  unfold State.edge
  dsimp only
  split <;> exact State.arbiterWf_congr (by simp) (by simp) (State.txn?_congr (by simp)) (by simp) h

theorem State.acceptLevel_arbiterWf {s : State} (h : s.arbiterWf) (p : Phase) : (s.acceptLevel p).arbiterWf := by
  obtain he | ⟨level, he, -⟩ | ⟨c, -, -, he⟩ := s.acceptLevel_cases p <;> rw [he]
  · exact h
  · exact h
  · rw [State.risingEdge_eq]
    have hedge := State.edge_arbiterWf (s := s.putPin p { s.mtu.pins.get p with accepted := some .high, candidate := none }) h p c
    split
    · exact State.cycleTick_arbiterWf hedge
    · exact hedge

theorem State.losePhase_arbiterWf {s : State} (h : s.arbiterWf) (p : Phase) : (s.losePhase p).arbiterWf :=
  State.arbiterWf_congr (by simp) (by simp) (State.txn?_congr (by simp)) (by simp) h

theorem State.takeDue_arbiterWf {s : State} (h : s.arbiterWf) (d : MainsDue) : (s.takeDue d).arbiterWf := by
  unfold State.takeDue
  split
  · cases d with
    | accept p => exact State.acceptLevel_arbiterWf h p
    | loss p => exact State.losePhase_arbiterWf h p
    | tick => exact State.cycleTick_arbiterWf (by exact h)
  · exact h

theorem State.changeMains_arbiterWf {s : State} (h : s.arbiterWf) (m : MainsSettings) : (s.changeMains m).arbiterWf :=
  State.takeAll_preserves (P := State.arbiterWf) (fun _ _ h => h) (fun _ d h => State.takeDue_arbiterWf h d)
    (s := { s with mtu := { s.mtu with settings := m } }) (by exact h) _ _

/-! ### Records that come and go, queries asked for, and resets (R3, R20, R21, R150, R152, R157) -/

theorem State.markReplaced_arbiterWf {s : State} (h : s.arbiterWf) (n : Nat) : (s.markReplaced n).arbiterWf := by
  rw [State.arbiterWf_iff] at h ⊢
  obtain ⟨hlen, hsound⟩ := h
  refine ⟨hlen, ?_⟩
  rw [State.markReplaced_txn?]
  refine hsound.retxn ?_ ?_
  · intro t ht
    obtain ⟨t', ht', rfl⟩ := Option.map_eq_some_iff.1 ht
    have hsame := hsound.running t' ht'
    split <;> exact ⟨hsame.consumer, hsame.port⟩
  · cases s.txn? with
    | none => rfl
    | some t =>
      simp only [Option.map_some, Option.bind_some]
      split <;> rfl

theorem State.putConsumer_arbiterWf {s : State} (h : s.arbiterWf) (n : Nat) (r : Option Consumer) :
    (s.putConsumer n r).arbiterWf :=
  State.arbiterWf_congr (s := s) (by simp) rfl rfl rfl h

theorem State.dropWaiting_arbiterWf {s : State} (h : s.arbiterWf) (hheld : s.held = false) (n : Nat) (p : Port) :
    (State.dropWaiting n s p).arbiterWf := by
  unfold State.dropWaiting
  split
  · next hwaiting =>
    rw [State.arbiterWf_iff, hheld] at h
    obtain ⟨hlen, hsound⟩ := h
    rw [State.arbiterWf_iff]
    refine ⟨hlen, ?_⟩
    dsimp only
    rw [State.completeQuery_held, hheld]
    exact hsound.dropped hwaiting _
  · exact h

theorem State.remove_arbiterWf {s : State} (h : s.arbiterWf) (hheld : s.held = false) (n : Nat) :
    (s.remove n).arbiterWf := by
  have hgone := State.markReplaced_arbiterWf (State.putConsumer_arbiterWf h n none) n
  simp only [State.remove, List.foldl_cons, List.foldl_nil]
  refine State.dropWaiting_arbiterWf (State.dropWaiting_arbiterWf (State.dropWaiting_arbiterWf hgone ?_ n .a) ?_ n .b) ?_ n .c
  all_goals simpa using hheld

theorem State.queryAsked_arbiterWf {s : State} (h : s.arbiterWf) (hheld : s.held = false) {p : Port} {n : Nat}
    (hidle : (s.arb.slots.get p).stage = .idle) (hn : n < 96) :
    State.arbiterWf { s.putSlot p { s.arb.slots.get p with stage := .waiting n } with
      arb := { (s.putSlot p { s.arb.slots.get p with stage := .waiting n }).arb with
        order := (s.putSlot p { s.arb.slots.get p with stage := .waiting n }).arb.order ++ [p] } } := by
  rw [State.arbiterWf_iff, hheld] at h
  obtain ⟨hlen, hsound⟩ := h
  rw [State.arbiterWf_iff]
  refine ⟨hlen, ?_⟩
  dsimp only [State.putSlot]
  rw [hheld]
  exact hsound.asked hidle hn _

/-- After a reset no slot waits and no transaction is in progress (R157). -/
theorem Arbiter.reset_sound : Arbiter.reset.Sound none false where
  starvation := Nat.zero_le _
  pointer := Nat.zero_le _
  sweepCount := Nat.zero_le _
  running := nofun
  order := List.nodup_nil
  slots _ p := by cases p <;> exact ⟨List.not_mem_nil, nofun⟩

theorem State.txn?_of_reset {s : State} {enabled : Bool} {t : Time} (h : s.fbc.link = linkAtReset enabled t) :
    s.txn? = none := by
  cases enabled <;> simp [State.txn?, h, linkAtReset]

theorem State.warm_arbiterWf {s : State} (h : s.arbiterWf) : s.warm.arbiterWf := by
  rw [State.arbiterWf_iff, State.txn?_of_reset (s := s.warm) (enabled := s.fbc.enabled) (t := s.time) rfl]
  exact ⟨by simpa [State.warm] using h.1, Arbiter.reset_sound⟩

theorem State.hold_arbiterWf {s : State} (h : s.arbiterWf) : s.hold.arbiterWf := by
  rw [State.arbiterWf_iff] at h ⊢
  obtain ⟨hlen, hsound⟩ := h
  have htxn : s.hold.txn? = none := by
    unfold State.hold
    dsimp only
    split
    · rfl
    · next hnone => exact hnone
  rw [htxn]
  simp only [State.hold_frame]
  exact ⟨hlen, hsound.starvation, hsound.pointer, hsound.sweepCount, nofun, hsound.order, fun hheld => by simp [State.hold] at hheld⟩

theorem State.takeExpiry_length (s : State) : s.takeExpiry.consumers.length = s.consumers.length := by
  have hwindow (t : State) : t.latchWindow.consumers.length = t.consumers.length := by
    unfold State.latchWindow
    split
    · exact State.mapConsumers_length ..
    · rfl
  unfold State.takeExpiry
  dsimp only
  split
  · rfl
  · simp [State.latch, State.latchHolds, State.latchCounted, hwindow]

/-! ### O58 -/

/-- Every command keeps the Arbiter sound: slots and order move together with the transaction that serves them. -/
theorem exec_arbiterWf {i : Instr} {s t : State} (hs : s.arbiterWf) (h : exec i s = .next t) : t.arbiterWf := by
  have hanswer (p : Port) : ∀ (t : State) (w : Window), t.arbiterWf → (t.setWindow p w).arbiterWf := fun _ _ h => h
  cases i with
  | powerOnReset u =>
    cases h
    rw [State.arbiterWf_iff, State.txn?_of_reset (s := (s.at u).powerOn) (enabled := true) (t := u) rfl]
    exact ⟨rfl, Arbiter.reset_sound⟩
  | resetnLow u =>
    cases h
    exact State.event_preserves (P := State.arbiterWf) (s := s.at u) hs fun _ _ => State.hold_arbiterWf (by exact hs)
  | warmReset u =>
    cases h
    split
    · exact State.warm_arbiterWf (s := s.at u) hs
    · exact hs
  | selectWindowClose p u =>
    cases h
    unfold State.closeWindow
    dsimp only
    split
    · exact State.warm_arbiterWf (by exact hs)
    · exact hs
  | unknownRequest p code rest =>
    obtain hnext | ⟨r, hnext⟩ := execUnknownRequest_cases p code rest s <;> cases hnext.symm.trans h
    · exact hs
    · exact State.request_preserves (P := State.arbiterWf) hs (hanswer p) fun _ => hs
  | installConsumer p n address segment allowed cost =>
    cases h
    refine State.request_preserves (P := State.arbiterWf) hs (hanswer p) fun _ => ?_
    (repeat' split) <;> first
      | exact hs
      | exact State.markReplaced_arbiterWf (State.putConsumer_arbiterWf hs ..) _
  | removeConsumer p n =>
    cases h
    refine State.request_preserves (P := State.arbiterWf) hs (hanswer p) fun hheld => ?_
    (repeat' split) <;> first
      | exact hs
      | exact State.remove_arbiterWf hs hheld _
  | queryUnit p n =>
    cases h
    refine State.request_preserves (P := State.arbiterWf) hs (hanswer p) fun hheld => ?_
    split; · exact hs
    next hn =>
    split; · exact hs
    split; · exact hs
    next hidle => exact State.queryAsked_arbiterWf hs hheld (not_not.1 hidle) (Nat.not_le.1 hn)
  | setBus p enable rate u =>
    cases h
    refine State.request_preserves (P := State.arbiterWf) (s := s.at u) hs (hanswer p) fun hheld => ?_
    (repeat' split) <;> first
      | exact hs
      | exact State.changeBus_arbiterWf (s := s.at u) hs hheld _ _
  | setMains p f band tol settle qualify u =>
    cases h
    refine State.request_preserves (P := State.arbiterWf) (s := s.at u) hs (hanswer p) fun _ => ?_
    (repeat' split) <;> first
      | exact hs
      | exact State.changeMains_arbiterWf (s := s.at u) hs _
  | qualifyTimeExpiry p u =>
    cases h
    exact State.event_preserves (P := State.arbiterWf) (s := s.at u) hs fun _ _ =>
      State.acceptLevel_arbiterWf (s := s.at u) hs p
  | lossExpiry p u =>
    cases h
    exact State.event_preserves (P := State.arbiterWf) (s := s.at u) hs fun _ _ =>
      State.losePhase_arbiterWf (s := s.at u) hs p
  | internalTick u =>
    cases h
    exact State.event_preserves (P := State.arbiterWf) (s := s.at u) hs fun _ _ =>
      State.cycleTick_arbiterWf (by exact hs)
  | issueGrant =>
    cases h
    split
    · next r _ =>
      refine State.event_preserves (P := State.arbiterWf) hs fun _ hgrant => ?_
      have hbegin := State.begin_arbiterWf (t := s.moveTxn (s.issuedRecord r)) hs hgrant
        (Txn.sound_of_none rfl nofun nofun) rfl
      exact State.arbiterWf_congr (by simp [State.grantIssue]) (by simp [State.grantIssue])
        (State.txn?_congr (by simp [State.grantIssue])) (by simp) hbegin
    · exact hs
  | confirmGrant =>
    cases h
    split
    · next r _ =>
      refine State.event_preserves (P := State.arbiterWf) hs fun _ hgrant => ?_
      exact State.begin_arbiterWf (t := s.poll .confirm r.consumer none) hs hgrant
        (Txn.sound_of_none rfl nofun nofun) rfl
    · exact hs
  | recheckGrant =>
    cases h
    split
    · next n c _ =>
      refine State.event_preserves (P := State.arbiterWf) hs fun _ hgrant => ?_
      have hbegin := State.begin_arbiterWf (t := s.poll .recheck n none) hs hgrant
        (Txn.sound_of_none rfl nofun nofun) rfl
      exact State.arbiterWf_congr (by simp [State.grantRecheck]) (by simp [State.grantRecheck])
        (State.txn?_congr (by simp [State.grantRecheck])) (by simp) hbegin
    · exact hs
  | queryGrant =>
    cases h
    split
    · next p n hpending =>
      exact State.event_preserves (P := State.arbiterWf) hs fun hheld hgrant =>
        State.grantQuery_arbiterWf hs hheld hgrant hpending
    · exact hs
  | sweepGrant =>
    cases h
    split
    · next n c htarget =>
      refine State.event_preserves (P := State.arbiterWf) hs fun _ hgrant => ?_
      have hn : n < 96 := by
        unfold State.sweepTarget at htarget
        split at htarget
        · cases htarget
        · exact State.lt_of_find? hs.1 htarget
      have hbegin := State.begin_arbiterWf (t := s.poll .sweep n none) hs hgrant
        (Txn.sound_of_none rfl nofun fun _ => hn) rfl
      rw [State.arbiterWf_iff] at hbegin ⊢
      exact ⟨hbegin.1, hbegin.2.recount hbegin.2.starvation hn hbegin.2.sweepCount⟩
    · exact hs
  | requestSent echo u =>
    cases h
    exact State.event_preserves (P := State.arbiterWf) (s := s.at u) hs fun _ _ =>
      State.arbiterWf_congr (s := s.at u) (by simp) (by simp) ((s.at u).requestSent_txn? echo) (by simp) hs
  | contention echo u =>
    cases h
    refine State.event_preserves (P := State.arbiterWf) (s := s.at u) hs fun hheld _ => ?_
    unfold State.contendSending
    split
    · next t hlink =>
      split
      · exact State.result_arbiterWf (s := s.at u) (u := ((s.at u).setFrx (lineAfterEcho echo)).contend) hs hheld
          (t := t) (by simp only [State.txn?, hlink]) rfl rfl rfl rfl (by simp)
      · exact hs
    · exact hs
  | foreignTalker u =>
    cases h
    exact State.event_preserves (P := State.arbiterWf) (s := s.at u) hs fun _ hfree =>
      State.arbiterWf_congr (s := s.at u) rfl rfl (State.txn?_of_busFree (s := s.at u) hfree).symm rfl hs
  | quietLimit u | quietTimeEnd u | joinWaitComplete u =>
    cases h
    refine State.event_preserves (P := State.arbiterWf) (s := s.at u) hs fun _ hcond => ?_
    have hnone : (s.at u).txn? = none := State.txn?_of_timer (by simp [hcond])
    exact State.arbiterWf_congr (s := s.at u) rfl rfl hnone.symm rfl hs
  | noReply u =>
    cases h
    refine State.event_preserves (P := State.arbiterWf) (s := s.at u) hs fun hheld _ => ?_
    unfold State.noReply
    split
    · next t a hlink =>
      split
      · exact State.result_arbiterWf (s := s.at u) (u := (s.at u).putLink (.online (.quiet u u))) hs hheld
          (t := t) (by simp only [State.txn?, hlink]) rfl rfl rfl rfl (by simp)
      · exact hs
    · exact hs
  | gap chars u =>
    cases h
    refine State.event_preserves (P := State.arbiterWf) (s := s.at u) hs fun hheld _ => ?_
    obtain he | ⟨_, t, hreply, he⟩ := (s.at u).gapAfter_cases chars <;> rw [he]
    · exact hs
    · exact State.endTxn_arbiterWf (s := s.at u) hs hheld (State.txn?_of_replyFrom hreply) _ (by simp)
  | replyFailed chars u =>
    cases h
    refine State.event_preserves (P := State.arbiterWf) (s := s.at u) hs fun hheld _ => ?_
    cases chars with
    | nil => exact hs
    | cons => exact State.receive_arbiterWf (s := s.at u) hs hheld ..
  | state status x y tag u | answer tag verdict u =>
    cases h
    refine State.event_preserves (P := State.arbiterWf) (s := s.at u.finish) hs fun hheld _ => ?_
    obtain he | ⟨_, _, _, he⟩ := State.receiveFrame_cases _ _ _ <;> rw [he]
    · exact hs
    · exact State.receive_arbiterWf (s := s.at u.finish) hs hheld ..
  | frxAtSpace u =>
    cases h
    have hspace := State.event_preserves (P := State.arbiterWf) (s := s.at u.time) (cond := true)
      (effect := State.spaceNow) hs fun _ _ =>
        State.arbiterWf_congr (s := s.at u.time) (by simp) (by simp) ((s.at u.time).spaceNow_txn?) (by simp) hs
    exact hspace
  | roundTimerExpiry | windowExpiry | holdExpiry | expired =>
    cases h
    exact State.event_preserves (P := State.arbiterWf) hs fun _ _ =>
      State.arbiterWf_congr s.takeExpiry_length (by simp) (State.txn?_congr (by simp)) (by simp) hs
  | completion | repeatDue | switchingWaitEnd | confirmRetryDue =>
    cases h
    split
    · exact State.event_preserves (P := State.arbiterWf) hs fun _ _ =>
        State.arbiterWf_congr (by simp) (by simp) (State.txn?_congr (by simp)) (by simp) hs
    · exact hs
  | selectWindowOpen | zcPinChange =>
    cases h
    exact State.arbiterWf_congr (by simp) (by simp) (State.txn?_congr (by simp)) (by simp) hs
  | _ =>
    cases h
    refine State.request_preserves (P := State.arbiterWf) hs (hanswer _) fun _ => ?_
    (repeat' split) <;>
      exact State.arbiterWf_congr (s := s) (by simp) (by simp) (State.txn?_congr (by simp)) (by simp) hs

/-- Settles O58: the slots and the arrival order change with the transaction that serves them, and a grant passes a pending
sweep only below the limit. -/
theorem everyStepKeepsTheArbiterSound : Obligations.EveryStepKeepsTheArbiterSound :=
  fun _ _ => step_preserves (P := State.arbiterWf) (fun _ _ h => h) fun _ _ _ => exec_arbiterWf

end Sys2Proof.Machine


/-! PROOFS. What every command keeps of the Connection Map and the move queue beside it (01_the_connection_map.md,
05_move_queue_and_execution.md): sound records on both sides, their agreement, and what the blocks leave in the queue. -/

namespace Sys2Proof.Machine

/-! ### What the predicates of a move record say -/

theorem State.mayWait_iff {s : State} {r : MoveRecord} :
    s.mayWait r = true ↔ ∃ c, s.consumer? r.consumer = some c ∧ s.isFrozen c.segment = false ∧
      (c.isHeld = true → r.origin = .portC) ∧ (r.origin = .engine → s.engine.run = .auto) := by
  unfold State.mayWait
  cases s.consumer? r.consumer with
  | none => simp
  | some c => cases c.isHeld <;> simp [and_assoc, imp_iff_not_or]

theorem State.permits_iff {s : State} {r : MoveRecord} :
    s.permits r = true ↔ ∃ c, s.consumer? r.consumer = some c ∧ c.allowed.get r.target = true := by
  unfold State.permits
  cases s.consumer? r.consumer <;> simp

theorem State.flies_iff {s : State} {r : MoveRecord} :
    s.flies r = true ↔ ∃ c, s.consumer? r.consumer = some c ∧ c.phaseState = .moving ∧ c.recorded = some r.source := by
  unfold State.flies
  cases s.consumer? r.consumer <;> simp

theorem State.offSource_iff {s : State} {r : MoveRecord} :
    s.offSource r = true ↔ r.state = .queued ∧ ∃ c, s.consumer? r.consumer = some c ∧ c.phaseState = .confirmed ∧
      c.recorded ≠ some r.source := by
  unfold State.offSource
  cases s.consumer? r.consumer <;> simp

theorem State.named_eq_false {s : State} {n : Nat} : s.named n = false ↔ ∀ r ∈ s.queue.records, r.consumer ≠ n := by
  simp [State.named]

/-! ### A sound map and queue in parts -/

/-- The map and the queue agree, but that the head may stand off its source, and the QUEUED records of `blocked` may be
such as have to go (R16, R29, R60, R87). -/
structure State.Loose (s : State) (blocked : MoveRecord → Bool) : Prop where
  length : s.consumers.length = 96
  consumers : ∀ n c, s.consumer? n = some c → c.wf
  room : s.queue.records.length ≤ 16
  distinct : (s.queue.records.map (·.consumer)).Nodup
  records : ∀ r ∈ s.queue.records, r.wf ∧ s.permits r = true
  waiting : ∀ r ∈ s.queue.records, r.state = .queued → blocked r = false → s.mayWait r = true
  flying : ∀ r ∈ s.queue.records, r.state ≠ .queued → s.flies r = true
  tail : ∀ r ∈ s.queue.records.tail, r.state = .queued
  moving : ∀ n c, s.consumer? n = some c → c.phaseState = .moving →
    ∃ r ∈ s.queue.records, r.consumer = n ∧ r.state ≠ .queued

/-- The map and the queue agree, and nothing stands in the queue that should have gone. -/
structure State.MovesSound (s : State) : Prop where
  loose : s.Loose fun _ => false
  head : ∀ r ∈ s.queue.records.head?, s.offSource r = false

theorem State.movesSound_iff (s : State) : s.MovesSound ↔ s.movesWf ∧ s.blockedWf := by
  simp only [State.movesWf, State.blockedWf, State.forall_present]
  constructor
  · rintro ⟨h, hhead⟩
    exact ⟨⟨h.length, h.consumers, h.room, fun r hr => (h.records r hr).1, h.distinct, fun r hr => (h.records r hr).2,
      h.tail, h.flying, h.moving, hhead⟩, fun r hr hq => h.waiting r hr hq rfl⟩
  · rintro ⟨⟨hlen, hconsumers, hroom, hwf, hdistinct, hpermits, htail, hflying, hmoving, hhead⟩, hwaiting⟩
    exact ⟨⟨hlen, hconsumers, hroom, hdistinct, fun r hr => ⟨hwf r hr, hpermits r hr⟩, fun r hr hq _ => hwaiting r hr hq,
      hflying, htail, hmoving⟩, hhead⟩

theorem State.Loose.weaken {s : State} (h : s.Loose fun _ => false) (blocked : MoveRecord → Bool) : s.Loose blocked :=
  { h with waiting := fun r hr hq _ => h.waiting r hr hq rfl }

/-- The head record in flight is the only one (R81). -/
theorem State.Loose.queued_of_flying {s : State} {blocked : MoveRecord → Bool} (h : s.Loose blocked) {r : MoveRecord}
    (hr : s.headMove = some r) : s.queue.records = r :: s.queue.records.tail := by
  unfold State.headMove at hr
  cases hrs : s.queue.records with
  | nil => simp [hrs] at hr
  | cons x xs =>
    rw [hrs] at hr
    cases hr
    rfl

/-! ### Changes of the map -/

/-- Records related one way are related in each way that this one implies. -/
theorem rel_imp {α : Type} {R S : α → α → Prop} (h : ∀ c d, R c d → S c d) {x y : Option α} (hR : Option.Rel R x y) :
    Option.Rel S x y := by
  cases hR with
  | some hk => exact .some (h _ _ hk)
  | none => exact .none

/-- A record that may take the place of another beside the queue as it stands. -/
structure Consumer.Keeps (c d : Consumer) : Prop where
  wf : c.wf → d.wf
  allowed : d.allowed = c.allowed
  moving : d.phaseState = .moving ↔ c.phaseState = .moving
  recorded : c.phaseState = .moving → d.recorded = c.recorded

/-- A record that blocks no move that the other does not block (R16, R30). -/
def Consumer.Frees (c d : Consumer) : Prop := d.segment = c.segment ∧ (d.isHeld = true → c.isHeld = true)

theorem State.mayWait_mono {s t : State} {r : MoveRecord} {c d : Consumer} (hc : s.consumer? r.consumer = some c)
    (hd : t.consumer? r.consumer = some d) (hfree : c.Frees d)
    (hfrozen : s.isFrozen c.segment = false → t.isFrozen c.segment = false)
    (hrun : s.engine.run = .auto → t.engine.run = .auto) (h : s.mayWait r = true) : t.mayWait r = true := by
  rw [State.mayWait_iff] at h ⊢
  obtain ⟨c', hc', hf, hh, hr⟩ := h
  obtain rfl : c = c' := Option.some.inj (hc.symm.trans hc')
  exact ⟨d, hd, hfree.1 ▸ hfrozen hf, fun hd => hh (hfree.2 hd), fun ho => hrun (hr ho)⟩

/-- A change of records that keeps each of them beside the queue, with the QUEUED records that it blocks named. -/
theorem State.Loose.remap {s t : State} {blocked blocked' : MoveRecord → Bool} (h : s.Loose blocked)
    (hlen : t.consumers.length = s.consumers.length) (hrecords : t.queue.records = s.queue.records)
    (hmap : ∀ n, Option.Rel Consumer.Keeps (s.consumer? n) (t.consumer? n))
    (hwait : ∀ r ∈ s.queue.records, r.state = .queued → blocked' r = false →
      blocked r = false ∧ (s.mayWait r = true → t.mayWait r = true)) : t.Loose blocked' := by
  have hforth (n : Nat) (c : Consumer) (hc : s.consumer? n = some c) : ∃ d, t.consumer? n = some d ∧ c.Keeps d := by
    have hn := hmap n
    rw [hc] at hn
    cases hd : t.consumer? n with
    | none => rw [hd] at hn; cases hn
    | some d => rw [hd] at hn; cases hn with | some hk => exact ⟨d, rfl, hk⟩
  have hback (n : Nat) (d : Consumer) (hd : t.consumer? n = some d) : ∃ c, s.consumer? n = some c ∧ c.Keeps d := by
    have hn := hmap n
    rw [hd] at hn
    cases hc : s.consumer? n with
    | none => rw [hc] at hn; cases hn
    | some c => rw [hc] at hn; cases hn with | some hk => exact ⟨c, rfl, hk⟩
  constructor
  case length => exact hlen.trans h.length
  case consumers =>
    intro n d hd
    obtain ⟨c, hc, hk⟩ := hback n d hd
    exact hk.wf (h.consumers n c hc)
  case room => exact hrecords ▸ h.room
  case distinct => exact hrecords ▸ h.distinct
  case tail => exact hrecords ▸ h.tail
  case records =>
    rw [hrecords]
    intro r hr
    obtain ⟨hwf, hpermits⟩ := h.records r hr
    obtain ⟨c, hc, hallowed⟩ := State.permits_iff.1 hpermits
    obtain ⟨d, hd, hk⟩ := hforth _ c hc
    exact ⟨hwf, State.permits_iff.2 ⟨d, hd, hk.allowed ▸ hallowed⟩⟩
  case waiting =>
    rw [hrecords]
    intro r hr hq hb
    obtain ⟨hb, hmono⟩ := hwait r hr hq hb
    exact hmono (h.waiting r hr hq hb)
  case flying =>
    rw [hrecords]
    intro r hr hf
    obtain ⟨c, hc, hm, hsource⟩ := State.flies_iff.1 (h.flying r hr hf)
    obtain ⟨d, hd, hk⟩ := hforth _ c hc
    exact State.flies_iff.2 ⟨d, hd, hk.moving.2 hm, (hk.recorded hm).trans hsource⟩
  case moving =>
    rw [hrecords]
    intro n d hd hm
    obtain ⟨c, hc, hk⟩ := hback n d hd
    exact h.moving n c hc (hk.moving.1 hm)

theorem Consumer.Keeps.refl (c : Consumer) : c.Keeps c := ⟨id, rfl, Iff.rfl, fun _ => rfl⟩

/-- A change of records that keeps and frees each of them leaves the queue as sound as it was. -/
theorem State.Loose.refree {s t : State} {blocked : MoveRecord → Bool} (h : s.Loose blocked)
    (hlen : t.consumers.length = s.consumers.length) (hrecords : t.queue.records = s.queue.records)
    (hmap : ∀ n, Option.Rel (fun c d => Consumer.Keeps c d ∧ c.Frees d) (s.consumer? n) (t.consumer? n))
    (hfrozen : ∀ g, s.isFrozen g = false → t.isFrozen g = false)
    (hrun : s.engine.run = .auto → t.engine.run = .auto) : t.Loose blocked := by
  refine h.remap hlen hrecords (fun n => ?_) fun r hr hq hb => ⟨hb, fun hmay => ?_⟩
  · exact rel_imp (fun _ _ hk => hk.1) (hmap n)
  · obtain ⟨c, hc, -⟩ := State.mayWait_iff.1 hmay
    have hn := hmap r.consumer
    rw [hc] at hn
    cases hd : t.consumer? r.consumer with
    | none => rw [hd] at hn; cases hn
    | some d =>
      rw [hd] at hn
      cases hn with
      | some hk => exact State.mayWait_mono hc hd hk.2 (hfrozen _) hrun hmay

/-- Changing one record is a change of the map at one number. -/
theorem State.rel_putConsumer {s : State} {R : Consumer → Consumer → Prop} (hrefl : ∀ c, R c c) {n : Nat} {c d : Consumer}
    (hc : s.consumer? n = some c) (hd : R c d) (m : Nat) :
    Option.Rel R (s.consumer? m) ((s.putConsumer n (some d)).consumer? m) := by
  rw [State.consumer?_putConsumer]
  split
  · next h =>
    rw [h.1, hc]
    exact .some hd
  · cases s.consumer? m with
    | none => exact .none
    | some c => exact .some (hrefl c)

theorem State.rel_updateConsumer {s : State} {R : Consumer → Consumer → Prop} (hrefl : ∀ c, R c c) {n : Nat}
    {f : Consumer → Consumer} (hf : ∀ c, s.consumer? n = some c → R c (f c)) (m : Nat) :
    Option.Rel R (s.consumer? m) ((s.updateConsumer n f).consumer? m) := by
  rw [State.consumer?_updateConsumer]
  split
  · next h =>
    subst h
    cases hc : s.consumer? m with
    | none => exact .none
    | some c => exact .some (hf c hc)
  · cases s.consumer? m with
    | none => exact .none
    | some c => exact .some (hrefl c)

theorem State.rel_mapConsumers {s : State} {R : Consumer → Consumer → Prop} {f : Consumer → Consumer}
    (hf : ∀ c, R c (f c)) (m : Nat) : Option.Rel R (s.consumer? m) ((s.mapConsumers f).consumer? m) := by
  rw [State.consumer?_mapConsumers]
  cases s.consumer? m with
  | none => exact .none
  | some c => exact .some (hf c)

theorem State.rel_congr {s t : State} {R : Consumer → Consumer → Prop} (hrefl : ∀ c, R c c)
    (h : t.consumers = s.consumers) (m : Nat) : Option.Rel R (s.consumer? m) (t.consumer? m) := by
  rw [State.consumer?_congr h]
  cases s.consumer? m with
  | none => exact .none
  | some c => exact .some (hrefl c)

/-- A record that stands as it did for the queue: nothing that a move reads of it has changed. -/
structure Consumer.Stands (c d : Consumer) : Prop where
  wf : c.wf → d.wf
  allowed : d.allowed = c.allowed
  phaseState : d.phaseState = c.phaseState
  recorded : d.recorded = c.recorded
  segment : d.segment = c.segment
  hold : d.isHeld = true → c.isHeld = true

theorem Consumer.Stands.refl (c : Consumer) : c.Stands c := ⟨id, rfl, rfl, rfl, rfl, id⟩

theorem Consumer.Stands.keeps {c d : Consumer} (h : c.Stands d) : c.Keeps d ∧ c.Frees d :=
  ⟨⟨h.wf, h.allowed, by rw [h.phaseState], fun _ => h.recorded⟩, h.segment, h.hold⟩

theorem State.offSource_of_stands {s t : State} (hmap : ∀ n, Option.Rel Consumer.Stands (s.consumer? n) (t.consumer? n))
    (r : MoveRecord) : t.offSource r = s.offSource r := by
  unfold State.offSource
  have hn := hmap r.consumer
  cases hs : s.consumer? r.consumer <;> cases ht : t.consumer? r.consumer <;> rw [hs, ht] at hn <;> cases hn
  · next hk => simp only [hk.phaseState, hk.recorded]

/-- A change of what no move reads of the records keeps the map and the queue sound. -/
theorem State.MovesSound.restand {s t : State} (h : s.MovesSound) (hlen : t.consumers.length = s.consumers.length)
    (hrecords : t.queue.records = s.queue.records)
    (hmap : ∀ n, Option.Rel Consumer.Stands (s.consumer? n) (t.consumer? n))
    (hfrozen : ∀ g, s.isFrozen g = false → t.isFrozen g = false)
    (hrun : s.engine.run = .auto → t.engine.run = .auto) : t.MovesSound where
  loose := h.loose.refree hlen hrecords (fun n => rel_imp (fun _ _ hk => hk.keeps) (hmap n)) hfrozen hrun
  head := by
    rw [hrecords]
    exact fun r hr => (State.offSource_of_stands hmap r).trans (h.head r hr)

theorem State.MovesSound.congr {s t : State} (h : s.MovesSound) (hc : t.consumers = s.consumers)
    (hrecords : t.queue.records = s.queue.records) (hsegs : t.segs = s.segs) (hrun : t.engine.run = s.engine.run) :
    t.MovesSound :=
  h.restand (by rw [hc]) hrecords (State.rel_congr Consumer.Stands.refl hc) (fun g => by simp [State.isFrozen, hsegs])
    (by simp [hrun])

theorem State.Loose.congr {s t : State} {blocked : MoveRecord → Bool} (h : s.Loose blocked)
    (hc : t.consumers = s.consumers) (hrecords : t.queue.records = s.queue.records) (hsegs : t.segs = s.segs)
    (hrun : t.engine.run = s.engine.run) : t.Loose blocked :=
  h.refree (by rw [hc]) hrecords (State.rel_congr (fun c => (Consumer.Stands.refl c).keeps) hc)
    (fun g => by simp [State.isFrozen, hsegs]) (by simp [hrun])

/-! ### Records that leave the queue (R87, R99) -/

/-- QUEUED records leave the queue, those that the blocks have named among them. -/
theorem State.Loose.sublist {s t : State} {blocked blocked' : MoveRecord → Bool} (h : s.Loose blocked)
    (hc : t.consumers = s.consumers) (hsegs : t.segs = s.segs) (hrun : t.engine.run = s.engine.run)
    (hsub : t.queue.records.Sublist s.queue.records)
    (hkeep : ∀ r ∈ s.queue.records, r.state ≠ .queued → r ∈ t.queue.records)
    (hblocked : ∀ r ∈ t.queue.records, r.state = .queued → blocked' r = false → blocked r = false) :
    t.Loose blocked' := by
  have hget : t.consumer? = s.consumer? := funext (State.consumer?_congr hc)
  have hpermits : t.permits = s.permits := by funext r; simp only [State.permits, hget]
  have hflies : t.flies = s.flies := by funext r; simp only [State.flies, hget]
  have hmay : t.mayWait = s.mayWait := by funext r; simp only [State.mayWait, hget, State.isFrozen, hsegs, hrun]
  constructor
  case length => exact hc ▸ h.length
  case consumers => exact hget ▸ h.consumers
  case room => exact hsub.length_le.trans h.room
  case distinct => exact h.distinct.sublist (hsub.map _)
  case records => exact hpermits ▸ fun r hr => h.records r (hsub.subset hr)
  case waiting => exact hmay ▸ fun r hr hq hb => h.waiting r (hsub.subset hr) hq (hblocked r hr hq hb)
  case flying => exact hflies ▸ fun r hr => h.flying r (hsub.subset hr)
  case tail => exact fun r hr => h.tail r (hsub.tail.subset hr)
  case moving =>
    rw [hget]
    intro n c hc hm
    obtain ⟨r, hr, hn, hf⟩ := h.moving n c hc hm
    exact ⟨r, hkeep r hr hf, hn, hf⟩

/-- Judging the head, and each new head in turn, leaves no head off its source (R87, R99). -/
theorem State.Loose.settleHead {s : State} (h : s.Loose fun _ => false) : s.settleHead.MovesSound := by
  have hloose : s.settleHead.Loose fun _ => false := by
    refine h.sublist (by simp) (by simp) (by simp) ?_ ?_ fun _ _ _ _ => rfl
    · rw [State.settleHead_records]
      exact List.dropWhile_sublist _
    · intro r hr hf
      rw [State.settleHead_records]
      rw [← List.takeWhile_append_dropWhile (p := s.offSource) (l := s.queue.records), List.mem_append] at hr
      refine hr.resolve_left fun hmem => hf (State.offSource_iff.1 (List.mem_takeWhile_imp hmem)).1
  refine ⟨hloose, fun r hr => ?_⟩
  rw [State.offSource_congr (t := s) (by simp)]
  rw [State.settleHead_records] at hr
  have hnot := List.head?_dropWhile_not s.offSource s.queue.records
  rw [Option.mem_def.1 hr] at hnot
  exact hnot

/-- A removal takes the QUEUED records that are blocked out of the queue (R99). -/
theorem State.Loose.removeQueued {s : State} {which : MoveRecord → Bool} (h : s.Loose which) (o : Outcome) :
    (s.removeQueued which o).MovesSound := by
  unfold State.removeQueued
  refine State.Loose.settleHead (h.sublist (by simp) (by simp) (by simp) ?_ ?_ ?_)
  · simpa using List.filter_sublist
  · intro r hr hf
    simp [hr, hf]
  · intro r hr hq _
    simp only [State.writeRemoved_frame, State.withRecords_records, List.mem_filter] at hr
    simpa [hq] using hr.2

/-! ### Records that move on in the queue (R80, R92 to R97) -/

/-- A move record that stands as it did for the map: the move as planned, and QUEUED or in flight as it was (R80). -/
structure MoveRecord.Stands (r r' : MoveRecord) : Prop where
  plan : r'.consumer = r.consumer ∧ r'.source = r.source ∧ r'.target = r.target ∧ r'.origin = r.origin
  state : r'.state = .queued ↔ r.state = .queued
  wf : r.wf → r'.wf

theorem MoveRecord.Stands.refl (r : MoveRecord) : r.Stands r := ⟨⟨rfl, rfl, rfl, rfl⟩, Iff.rfl, fun h => h⟩

theorem MoveRecord.Follows.stands {r r' : MoveRecord} (h : r.Follows r') (hr : r.state ≠ .queued) : r.Stands r' :=
  ⟨h.plan, iff_of_false h.state hr, h.wf⟩

/-- Each member of a list has its counterpart in a list that stands beside it. -/
theorem forall₂_exists {α : Type} {R : α → α → Prop} {xs ys : List α} (h : List.Forall₂ R xs ys) :
    (∀ y ∈ ys, ∃ x ∈ xs, R x y) ∧ (∀ x ∈ xs, ∃ y ∈ ys, R x y) := by
  induction h with
  | nil => simp
  | cons hxy _ ih =>
    simp only [List.forall_mem_cons, List.exists_mem_cons_iff]
    exact ⟨⟨.inl hxy, fun y hy => .inr (ih.1 y hy)⟩, ⟨.inl hxy, fun x hx => .inr (ih.2 x hx)⟩⟩

theorem forall₂_tail {α : Type} {R : α → α → Prop} {xs ys : List α} (h : List.Forall₂ R xs ys) :
    List.Forall₂ R xs.tail ys.tail := by
  cases h with
  | nil => exact .nil
  | cons _ hrest => exact hrest

/-- The predicates of a record read its plan and the map. -/
theorem MoveRecord.Stands.same {r r' : MoveRecord} (h : r.Stands r') {s t : State} (hc : t.consumers = s.consumers)
    (hsegs : t.segs = s.segs) (hrun : t.engine.run = s.engine.run) :
    t.permits r' = s.permits r ∧ t.mayWait r' = s.mayWait r ∧ t.flies r' = s.flies r ∧
      t.offSource r' = s.offSource r := by
  have hget : t.consumer? = s.consumer? := funext (State.consumer?_congr hc)
  obtain ⟨hconsumer, hsource, htarget, horigin⟩ := h.plan
  have hqueued : (r'.state == .queued) = (r.state == .queued) := by
    rw [Bool.eq_iff_iff, beq_iff_eq, beq_iff_eq]
    exact h.state
  simp only [State.permits, State.mayWait, State.flies, State.offSource, State.isFrozen, hget, hsegs, hrun, hconsumer,
    hsource, htarget, horigin, hqueued, and_self]

/-- Records that move on each in its place keep the map and the queue sound. -/
theorem State.MovesSound.rerecord {s t : State} (h : s.MovesSound) (hc : t.consumers = s.consumers)
    (hsegs : t.segs = s.segs) (hrun : t.engine.run = s.engine.run)
    (hrel : List.Forall₂ MoveRecord.Stands s.queue.records t.queue.records) : t.MovesSound := by
  have hget : t.consumer? = s.consumer? := funext (State.consumer?_congr hc)
  obtain ⟨hback, hforth⟩ := forall₂_exists hrel
  obtain ⟨h, hhead⟩ := h
  refine ⟨⟨?_, ?_, ?_, ?_, ?_, ?_, ?_, ?_, ?_⟩, ?_⟩
  case refine_1 => exact hc ▸ h.length
  case refine_2 => exact hget ▸ h.consumers
  case refine_3 => exact hrel.length_eq ▸ h.room
  case refine_4 =>
    have hmap : List.Forall₂ (· = ·) (s.queue.records.map (·.consumer)) (t.queue.records.map (·.consumer)) := by
      rw [List.forall₂_map_left_iff, List.forall₂_map_right_iff]
      exact hrel.imp fun r r' hr => hr.plan.1.symm
    rw [List.forall₂_eq_eq_eq] at hmap
    exact hmap ▸ h.distinct
  case refine_5 =>
    intro r' hr'
    obtain ⟨r, hr, hs⟩ := hback r' hr'
    obtain ⟨hp, -⟩ := hs.same hc hsegs hrun
    exact ⟨hs.wf (h.records r hr).1, hp ▸ (h.records r hr).2⟩
  case refine_6 =>
    intro r' hr' hq _
    obtain ⟨r, hr, hs⟩ := hback r' hr'
    obtain ⟨-, hm, -⟩ := hs.same hc hsegs hrun
    exact hm ▸ h.waiting r hr (hs.state.1 hq) rfl
  case refine_7 =>
    intro r' hr' hq
    obtain ⟨r, hr, hs⟩ := hback r' hr'
    obtain ⟨-, -, hf, -⟩ := hs.same hc hsegs hrun
    exact hf ▸ h.flying r hr (mt hs.state.2 hq)
  case refine_8 =>
    have htail := forall₂_tail hrel
    intro r' hr'
    obtain ⟨r, hr, hs⟩ := (forall₂_exists htail).1 r' hr'
    exact hs.state.2 (h.tail r hr)
  case refine_9 =>
    rw [hget]
    intro n c hn hm
    obtain ⟨r, hr, rfl, hq⟩ := h.moving n c hn hm
    obtain ⟨r', hr', hs⟩ := hforth r hr
    exact ⟨r', hr', hs.plan.1, mt hs.state.1 hq⟩
  case refine_10 =>
    intro r' hr'
    cases hxs : s.queue.records <;> cases hys : t.queue.records <;> rw [hxs, hys] at hrel <;> cases hrel
    · simp [hys] at hr'
    · next hs _ =>
      rw [hys] at hr'
      cases hr'
      obtain ⟨-, -, -, ho⟩ := hs.same hc hsegs hrun
      exact ho ▸ hhead _ (by simp [hxs])

/-- The head record moves on in its own stage (R92 to R97). -/
theorem State.MovesSound.putHead {s : State} (h : s.MovesSound) {r r' : MoveRecord} (hr : s.headMove = some r)
    (hfollows : r.Stands r') : (s.putHead r').MovesSound := by
  refine h.rerecord rfl rfl rfl ?_
  have hrs := h.loose.queued_of_flying hr
  rw [State.putHead_records]
  rw [hrs]
  exact .cons hfollows (List.forall₂_same.2 fun r _ => .refl r)

/-! ### Records of the map that come, go and change beside the queue -/

/-- The predicates of a record read its own consumer alone. -/
theorem State.putConsumer_other (s : State) {n : Nat} {r : MoveRecord} (hr : r.consumer ≠ n) (x : Option Consumer) :
    (s.putConsumer n x).permits r = s.permits r ∧ (s.putConsumer n x).mayWait r = s.mayWait r ∧
      (s.putConsumer n x).flies r = s.flies r ∧ (s.putConsumer n x).offSource r = s.offSource r := by
  have hget : (s.putConsumer n x).consumer? r.consumer = s.consumer? r.consumer := by
    rw [State.consumer?_putConsumer, if_neg (by simp [hr])]
  simp only [State.permits, State.mayWait, State.flies, State.offSource, hget, State.isFrozen, State.putConsumer_segs,
    State.putConsumer_engine, and_self]

/-- A record installed or removed that no move names (R20, R21). -/
theorem State.MovesSound.replace {s : State} (h : s.MovesSound) {n : Nat} (hn : s.named n = false)
    {x : Option Consumer} (hx : ∀ c ∈ x, c.wf ∧ c.phaseState ≠ .moving) : (s.putConsumer n x).MovesSound := by
  rw [State.named_eq_false] at hn
  obtain ⟨h, hhead⟩ := h
  refine ⟨⟨?_, ?_, h.room, h.distinct, ?_, ?_, ?_, h.tail, ?_⟩, ?_⟩
  case refine_1 => simpa using h.length
  case refine_2 =>
    intro m c hc
    rw [State.consumer?_putConsumer] at hc
    split at hc
    · exact (hx c hc).1
    · exact h.consumers m c hc
  case refine_3 =>
    intro r hr
    obtain ⟨hp, -⟩ := s.putConsumer_other (hn r hr) x
    exact hp ▸ h.records r hr
  case refine_4 =>
    intro r hr
    obtain ⟨-, hm, -⟩ := s.putConsumer_other (hn r hr) x
    exact hm ▸ h.waiting r hr
  case refine_5 =>
    intro r hr
    obtain ⟨-, -, hf, -⟩ := s.putConsumer_other (hn r hr) x
    exact hf ▸ h.flying r hr
  case refine_6 =>
    intro m c hc hm
    rw [State.consumer?_putConsumer] at hc
    split at hc
    · exact absurd hm (hx c hc).2
    · exact h.moving m c hc hm
  case refine_7 =>
    intro r hr
    obtain ⟨-, -, -, ho⟩ := s.putConsumer_other (hn r (List.mem_of_head? hr)) x
    exact ho ▸ hhead r hr

/-- Beside the head record no other names its consumer (R81). -/
theorem State.Loose.other_of_tail {s : State} {blocked : MoveRecord → Bool} (h : s.Loose blocked) {r q : MoveRecord}
    (hr : s.headMove = some r) (hq : q ∈ s.queue.records.tail) : q.consumer ≠ r.consumer := by
  have hdistinct := h.distinct
  rw [h.queued_of_flying hr, List.map_cons, List.nodup_cons] at hdistinct
  exact fun he => hdistinct.1 (he ▸ List.mem_map_of_mem hq)

/-- While the head record is in flight no other consumer is MOVING (R5). -/
theorem State.Loose.moving_head {s : State} {blocked : MoveRecord → Bool} (h : s.Loose blocked) {r : MoveRecord}
    (hr : s.headMove = some r) {n : Nat} {c : Consumer} (hc : s.consumer? n = some c) (hm : c.phaseState = .moving) :
    r.consumer = n ∧ r.state ≠ .queued := by
  obtain ⟨q, hq, hn, hf⟩ := h.moving n c hc hm
  rw [h.queued_of_flying hr, List.mem_cons] at hq
  obtain rfl | hq := hq
  · exact ⟨hn, hf⟩
  · exact absurd (h.tail q hq) hf

/-- The head record in flight ends, and the map follows (R11, R12, R98). -/
theorem State.MovesSound.endMove {s : State} (h : s.MovesSound) {r : MoveRecord} (hr : s.headMove = some r)
    (hstate : r.state ≠ .queued) (o : Outcome) (v : Option Refused) {map : Consumer → Consumer} (hmap : EndsMove map)
    (found : Option Phase) : (s.endMove r o v map found).MovesSound := by
  obtain ⟨h, -⟩ := h
  have hrs := h.queued_of_flying hr
  have hmem : r ∈ s.queue.records := hrs ▸ List.mem_cons_self
  obtain ⟨c, hc, -, hsource⟩ := State.flies_iff.1 (h.flying r hmem hstate)
  have hlt := State.consumer?_lt hc
  have hsettled : (map c).phaseState ≠ .moving := by
    rcases hmap.settled c with hs | hs <;> simp [hs]
  have hended : State.Loose { s with
      queue := { s.queue with records := s.queue.records.tail }
      consumers := s.consumers.set r.consumer (some (map c)) } fun _ => false := by
    refine State.Loose.congr (s := (s.withRecords s.queue.records.tail).putConsumer r.consumer (some (map c))) ?_ rfl rfl
      rfl rfl
    have hother {q : MoveRecord} (hq : q ∈ s.queue.records.tail) :=
      (s.withRecords s.queue.records.tail).putConsumer_other (h.other_of_tail hr hq) (some (map c))
    constructor
    case length => simpa using h.length
    case consumers =>
      intro m d hd
      rw [State.consumer?_putConsumer] at hd
      split at hd
      · cases hd
        exact hmap.wf c (h.consumers _ c hc) (by simp [hsource])
      · exact h.consumers m d hd
    case room => exact (List.tail_sublist _).length_le.trans h.room
    case distinct => exact h.distinct.sublist ((List.tail_sublist _).map _)
    case records =>
      intro q hq
      obtain ⟨hp, -⟩ := hother hq
      exact hp ▸ h.records q (List.mem_of_mem_tail hq)
    case waiting =>
      intro q hq
      obtain ⟨-, hm, -⟩ := hother hq
      exact hm ▸ h.waiting q (List.mem_of_mem_tail hq)
    case flying => exact fun q hq hf => absurd (h.tail q hq) hf
    case tail => exact fun q hq => h.tail q (List.mem_of_mem_tail hq)
    case moving =>
      intro m d hd hm
      rw [State.consumer?_putConsumer] at hd
      split at hd
      · cases hd
        exact absurd hm hsettled
      · next hne => exact absurd ⟨(h.moving_head hr hd hm).1.symm, hlt⟩ hne
  rw [State.endMove_eq o v map found hc]
  cases found with
  | none => exact State.Loose.settleHead (hended.congr (by simp) (by simp) (by simp) (by simp))
  | some p => exact State.Loose.settleHead (hended.congr (by simp) (by simp) (by simp) (by simp))

/-! ### Moves made and issued (R72, R84, R88) -/

/-- A move made for a confirmed consumer that may be moved so (R72, R80, R84). -/
theorem State.MovesSound.makeMove {s : State} (h : s.MovesSound) {n : Nat} {c : Consumer} {source target : Phase}
    {origin : Origin} (hc : s.consumer? n = some c) (hrecorded : c.recorded = some source)
    (hallowed : c.allowed.get target = true) (hne : source ≠ target)
    (hn : s.named n = false) (hroom : s.queue.records.length < 16) (hfrozen : s.isFrozen c.segment = false)
    (hheld : c.isHeld = true → origin = .portC) (hrun : origin = .engine → s.engine.run = .auto) (round : RoundNo) :
    (s.makeMove n source target origin round).MovesSound := by
  rw [State.named_eq_false] at hn
  obtain ⟨h, hhead⟩ := h
  refine ⟨⟨h.length, h.consumers, ?_, ?_, ?_, ?_, ?_, ?_, ?_⟩, ?_⟩ <;>
    simp only [State.makeMove, List.length_append, List.length_singleton, List.map_append, List.map_cons, List.map_nil,
      List.mem_append, List.mem_singleton]
  case refine_1 => omega
  case refine_2 =>
    simpa [List.nodup_append, h.distinct] using fun r hr => hn r hr
  case refine_3 =>
    rintro r (hr | rfl)
    · exact h.records r hr
    · exact ⟨⟨hne, by simp⟩, State.permits_iff.2 ⟨c, hc, hallowed⟩⟩
  case refine_4 =>
    rintro r (hr | rfl) hq -
    · exact h.waiting r hr hq rfl
    · exact State.mayWait_iff.2 ⟨c, hc, hfrozen, hheld, hrun⟩
  case refine_5 =>
    rintro r (hr | rfl) hf
    · exact h.flying r hr hf
    · exact absurd rfl hf
  case refine_6 =>
    intro r hr
    cases hrs : s.queue.records with
    | nil => simp [hrs] at hr
    | cons q qs =>
      rw [hrs, List.cons_append, List.tail_cons, List.mem_append, List.mem_singleton] at hr
      obtain hr | rfl := hr
      · exact h.tail r (by simpa [hrs] using hr)
      · rfl
  case refine_7 =>
    intro m d hd hm
    obtain ⟨r, hr, hrest⟩ := h.moving m d hd hm
    exact ⟨r, .inl hr, hrest⟩
  case refine_8 =>
    intro r hr
    cases hrs : s.queue.records with
    | nil =>
      simp only [hrs, List.nil_append, List.head?_cons, Option.mem_def, Option.some.injEq] at hr
      subst hr
      rw [Bool.eq_false_iff]
      intro ho
      obtain ⟨-, d, hd, -, hoff⟩ := State.offSource_iff.1 ho
      obtain rfl : c = d := Option.some.inj (hc.symm.trans hd)
      exact hoff hrecorded
    | cons q qs =>
      rw [hrs, List.cons_append, List.head?_cons] at hr
      exact hhead r (by simpa [hrs] using hr)

/-- The head record that is ready becomes ISSUING, its consumer MOVING (R88). -/
theorem State.MovesSound.issue {s : State} (h : s.MovesSound) {r r' : MoveRecord} {c : Consumer}
    (hr : s.headMove = some r) (hqueued : r.state = .queued) (hc : s.consumer? r.consumer = some c)
    (hconfirmed : c.phaseState = .confirmed) (hsource : c.recorded = some r.source)
    (hplan : r'.consumer = r.consumer ∧ r'.source = r.source ∧ r'.target = r.target)
    (hwf : r'.wf) (hstate : r'.state ≠ .queued) :
    ((s.putHead r').putConsumer r.consumer (some { c with phaseState := .moving })).MovesSound := by
  obtain ⟨h, -⟩ := h
  obtain ⟨hconsumer, hsource', htarget⟩ := hplan
  have hrs := h.queued_of_flying hr
  have hmem : r ∈ s.queue.records := hrs ▸ List.mem_cons_self
  have hlt := State.consumer?_lt hc
  have hother {q : MoveRecord} (hq : q ∈ s.queue.records.tail) :=
    (s.putHead r').putConsumer_other (h.other_of_tail hr hq) (some { c with phaseState := .moving })
  have hget : ((s.putHead r').putConsumer r.consumer (some { c with phaseState := .moving })).consumer? r'.consumer =
      some { c with phaseState := .moving } := by
    rw [State.consumer?_putConsumer, hconsumer]
    exact if_pos ⟨rfl, hlt⟩
  refine ⟨⟨?_, ?_, ?_, ?_, ?_, ?_, ?_, h.tail, ?_⟩, ?_⟩
  case refine_1 => simpa using h.length
  case refine_2 =>
    intro m d hd
    rw [State.consumer?_putConsumer] at hd
    split at hd
    · cases hd
      obtain ⟨-, hrecheck, htried, hops, hhealth⟩ := h.consumers _ c hc
      exact ⟨by simp [hsource], by simpa [hconfirmed] using hrecheck, htried, hops, hhealth⟩
    · exact h.consumers m d hd
  case refine_3 =>
    have hroom := h.room
    rw [hrs] at hroom
    exact hroom
  case refine_4 =>
    have hdistinct := h.distinct
    rw [hrs, List.map_cons, ← hconsumer] at hdistinct
    exact hdistinct
  case refine_5 =>
    rintro q (_ | ⟨_, hq⟩)
    · obtain ⟨c', hc', hallowed⟩ := State.permits_iff.1 (h.records r hmem).2
      obtain rfl : c = c' := Option.some.inj (hc.symm.trans hc')
      exact ⟨hwf, State.permits_iff.2 ⟨_, hget, htarget ▸ hallowed⟩⟩
    · obtain ⟨hp, -⟩ := hother hq
      exact hp ▸ h.records q (List.mem_of_mem_tail hq)
  case refine_6 =>
    rintro q (_ | ⟨_, hq⟩)
    · exact fun hq => absurd hq hstate
    · obtain ⟨-, hm, -⟩ := hother hq
      exact hm ▸ h.waiting q (List.mem_of_mem_tail hq)
  case refine_7 =>
    rintro q (_ | ⟨_, hq⟩) hf
    · exact State.flies_iff.2 ⟨_, hget, rfl, hsource' ▸ hsource⟩
    · exact absurd (h.tail q hq) hf
  case refine_8 =>
    intro m d hd hm
    rw [State.consumer?_putConsumer] at hd
    split at hd
    · next hmr => exact ⟨r', List.mem_cons_self, hconsumer.trans hmr.1.symm, hstate⟩
    · exact absurd hqueued (h.moving_head hr hd hm).2
  case refine_9 =>
    intro q hq
    obtain rfl : r' = q := by simpa using hq
    rw [Bool.eq_false_iff]
    exact fun ho => hstate (State.offSource_iff.1 ho).1

end Sys2Proof.Machine


/-! PROOFS. Every command keeps the map and the queue in agreement: results, grants, mains events, rounds, requests and
resets in turn. -/

namespace Sys2Proof.Machine

/-! ### Results (R145) -/

theorem Consumer.keeps_heard (c : Consumer) (r : StateReply) (round : RoundNo) :
    c.Keeps (c.heard r round) ∧ c.Frees (c.heard r round) := by
  refine ⟨⟨fun h => ?_, ?_, ?_, ?_⟩, ?_⟩ <;> unfold Consumer.heard
  case refine_1 =>
    obtain ⟨hnone, hrecheck, htried, hops, hhealth⟩ := h
    (repeat' split) <;> (refine ⟨?_, ?_, ?_, hops, hhealth⟩) <;>
      simp_all [Consumer.takeReading, Consumer.confirm, Consumer.lose]
  case refine_5 => (repeat' split) <;> exact ⟨rfl, id⟩
  all_goals (repeat' split) <;> simp_all [Consumer.takeReading, Consumer.confirm, Consumer.lose]

theorem State.MovesSound.applyReply {s : State} (h : s.MovesSound) (n : Nat) (r : StateReply) :
    (s.applyReply n r).MovesSound := by
  obtain ⟨-, he⟩ | ⟨c, hc, hcases⟩ := s.applyReply_cases n r
  · rwa [he]
  · have hput : (s.putConsumer n (some (c.heard r s.engine.round))).Loose fun _ => false :=
      h.loose.refree (by simp) rfl
        (State.rel_putConsumer (fun c => (Consumer.Stands.refl c).keeps) hc (c.keeps_heard r s.engine.round))
        (fun _ hg => hg) id
    obtain he | ⟨b, p, cause, he⟩ := hcases <;> rw [he]
    · exact hput.settleHead
    · exact State.Loose.settleHead (hput.congr (by simp) (by simp) (by simp) (by simp))

theorem State.MovesSound.scoreHealth {s : State} (h : s.MovesSound) (n : Nat) (good : Bool) :
    (s.scoreHealth n good).MovesSound := by
  cases hc : s.consumer? n with
  | none => simpa only [State.scoreHealth, hc] using h
  | some c =>
    have hscore : (if good then c.health - 1 else min 160 (c.health + 4)) ≤ 160 ∨ 160 < c.health := by
      split <;> omega
    have hd : c.Stands { c with health := if good then c.health - 1 else min 160 (c.health + 4) } :=
      ⟨fun ⟨hnone, hrecheck, htried, hops, hhealth⟩ =>
        ⟨hnone, hrecheck, htried, hops, hscore.resolve_right (Nat.not_lt.2 hhealth)⟩, rfl, rfl, rfl, rfl, id⟩
    rw [State.scoreHealth_eq good hc]
    exact (h.restand (t := s.putConsumer n _) (by simp) rfl (State.rel_putConsumer Consumer.Stands.refl hc hd)
      (fun _ hg => hg) id).congr rfl rfl rfl rfl

/-- A change of one record that no move reads. -/
theorem State.MovesSound.updateConsumer {s : State} (h : s.MovesSound) (n : Nat) {f : Consumer → Consumer}
    (hf : ∀ c, s.consumer? n = some c → c.Stands (f c)) : (s.updateConsumer n f).MovesSound :=
  h.restand (by simp) (by simp) (State.rel_updateConsumer Consumer.Stands.refl hf) (fun g => by simp [State.isFrozen])
    (by simp)

/-- A change of every record that no move reads. -/
theorem State.MovesSound.mapConsumers {s : State} (h : s.MovesSound) {f : Consumer → Consumer}
    (hf : ∀ c : Consumer, c.Stands (f c)) : (s.mapConsumers f).MovesSound :=
  h.restand (by simp) rfl (State.rel_mapConsumers hf) (fun _ hg => hg) id

/-- Only a member of the recheck set may be tried; clearing the flag is free (R5). -/
theorem Consumer.stands_untried (c : Consumer) : c.Stands { c with tried := false } where
  wf h := ⟨h.1, h.2.1, nofun, h.2.2.2⟩
  allowed := rfl
  phaseState := rfl
  recorded := rfl
  segment := rfl
  hold := id

theorem State.MovesSound.result {s : State} (h : s.MovesSound) (t : Txn) (res : TxnResult) :
    (s.result t res).MovesSound := by
  have hrec : (s.resultOnRecord t res).MovesSound := by
    obtain he | ⟨good, he⟩ | ⟨r, -, he⟩ := s.resultOnRecord_cases t res <;> rw [he]
    · exact h
    · exact h.scoreHealth ..
    · exact (h.scoreHealth ..).applyReply ..
  unfold State.result
  obtain he | ⟨r, hr, hstate, ⟨r', hfollows, he⟩ | ⟨o, w, map, found, hmap, he⟩⟩ | he | ⟨p, -, -, he⟩ | ⟨-, he⟩ :=
    (s.resultOnRecord t res).resultOnClass_cases t res <;> rw [he]
  · exact hrec
  · exact hrec.putHead hr (hfollows.stands hstate)
  · exact hrec.endMove hr hstate o w hmap found
  · exact hrec.updateConsumer _ fun c _ => c.stands_untried
  · exact hrec.congr (by simp) (by simp) (by simp) (by simp)
  · exact hrec.congr rfl rfl rfl rfl

/-! ### Grants (R88, R93, R95, R148) -/

theorem State.issuePending_cases {s : State} {r : MoveRecord} (h : s.issuePending = some r) :
    s.headMove = some r ∧ (s.readyToIssue r = true ∨ s.repeatPending r = true) := by
  unfold State.issuePending at h
  split at h
  · simpa [Option.filter_eq_some_iff] using h
  · cases h

theorem State.confirmPending_cases {s : State} {r : MoveRecord} (h : s.confirmPending = some r) :
    s.headMove = some r ∧ r.state = .confirming ∧ r.attemptDue = true := by
  unfold State.confirmPending at h
  split at h
  · simpa [Option.filter_eq_some_iff] using h
  · cases h

/-- The record of a first grant: its first attempt, with the dead time (R88). -/
theorem State.issuedRecord_of_queued (s : State) {r : MoveRecord} (h : r.state = .queued) :
    s.issuedRecord r =
      { r with state := .issuing, deadTime := some s.policy.active.deadTime, issueAttempts := 1 } := if_pos h

/-- The record of a repeat: one attempt more, with the dead time that it has (R93). -/
theorem State.issuedRecord_of_issuing (s : State) {r : MoveRecord} (h : r.state = .issuing) :
    s.issuedRecord r = { r with issueAttempts := r.issueAttempts + 1, attemptDue := false } := if_neg (by simp [h])

theorem MoveRecord.stands_repeated {r : MoveRecord} (hstate : r.state = .issuing) (hdue : r.attemptDue = true) :
    r.Stands { r with issueAttempts := r.issueAttempts + 1, attemptDue := false } where
  plan := ⟨rfl, rfl, rfl, rfl⟩
  state := Iff.rfl
  wf h := by
    obtain ⟨hphases, -, hconfirm, -, hdead, hbefore, hwait, hfew⟩ := h
    obtain ⟨hnowait, hended⟩ := hwait hdue
    have hissue := (hfew (.inr (.inr hdue))).1 hstate
    exact ⟨hphases, hissue, hconfirm, by simp [hstate], hdead, hbefore, nofun, by simp [hnowait, hended]⟩

theorem MoveRecord.stands_confirmAttempt {r : MoveRecord} (hstate : r.state = .confirming) (hdue : r.attemptDue = true) :
    r.Stands { r with confirmAttempts := r.confirmAttempts + 1, attemptDue := false } where
  plan := ⟨rfl, rfl, rfl, rfl⟩
  state := Iff.rfl
  wf h := by
    obtain ⟨hphases, hissue, -, -, hdead, -, hwait, hfew⟩ := h
    obtain ⟨hnowait, hended⟩ := hwait hdue
    have hconfirm := (hfew (.inr (.inr hdue))).2 hstate
    exact ⟨hphases, hissue, hconfirm, by simp [hstate], hdead, by simp [hstate], nofun, by simp [hnowait, hended]⟩

theorem State.MovesSound.grantIssue {s : State} (h : s.MovesSound) {r : MoveRecord} (hr : s.issuePending = some r) :
    (s.grantIssue r).MovesSound := by
  obtain ⟨hhead, hready⟩ := State.issuePending_cases hr
  have hmem : r ∈ s.queue.records := h.loose.queued_of_flying hhead ▸ List.mem_cons_self
  have hbegin : (s.begin (s.moveTxn (s.issuedRecord r))).MovesSound := h.congr rfl rfl rfl rfl
  unfold State.grantIssue
  dsimp only
  rcases hready with hready | hready
  · simp only [State.readyToIssue, Bool.and_eq_true, beq_iff_eq] at hready
    obtain ⟨⟨hqueued, -⟩, hready⟩ := hready
    cases hc : s.consumer? r.consumer with
    | none => simp [hc] at hready
    | some c =>
      simp only [hc, Bool.and_eq_true, beq_iff_eq] at hready
      have hrwf := (h.loose.records r hmem).1
      rw [State.updateConsumer_of_present (c := c) (by exact hc)]
      refine hbegin.issue hhead hqueued hc hready.1 hready.2 ?_ ?_ ?_ <;> rw [s.issuedRecord_of_queued hqueued]
      · exact ⟨rfl, rfl, rfl⟩
      · obtain ⟨hphases, -, hconfirm, hq, -, hbefore, hwait, -⟩ := hrwf
        obtain ⟨-, -, hnowait, hended, hdue⟩ := hq hqueued
        exact ⟨hphases, by simp, hconfirm, nofun, fun _ => nofun, fun _ => hbefore (by simp [hqueued]), hwait,
          by simp [hnowait, hended, hdue]⟩
      · nofun
  · simp only [State.repeatPending, Bool.and_eq_true, beq_iff_eq] at hready
    obtain ⟨⟨hissuing, hdue⟩, -⟩ := hready
    rw [s.issuedRecord_of_issuing hissuing] at hbegin ⊢
    have hput := hbegin.putHead hhead (MoveRecord.stands_repeated hissuing hdue)
    refine hput.updateConsumer _ fun c hc => ?_
    obtain ⟨c', hc', hmoving, -⟩ := State.flies_iff.1 (h.loose.flying r hmem (by simp [hissuing]))
    obtain rfl : c = c' := Option.some.inj ((show s.consumer? r.consumer = some c from hc).symm.trans hc')
    rw [← hmoving]
    exact .refl c

theorem State.MovesSound.grantConfirm {s : State} (h : s.MovesSound) {r : MoveRecord} (hr : s.confirmPending = some r) :
    (s.grantConfirm r).MovesSound := by
  obtain ⟨hhead, hstate, hdue⟩ := State.confirmPending_cases hr
  have hbegin : (s.begin (s.poll .confirm r.consumer none)).MovesSound := h.congr rfl rfl rfl rfl
  exact hbegin.putHead hhead (MoveRecord.stands_confirmAttempt hstate hdue)

theorem State.MovesSound.grantRecheck {s : State} (h : s.MovesSound) {n : Nat} {c : Consumer}
    (hn : s.recheckTarget = some (n, c)) : (s.grantRecheck n).MovesSound := by
  have hbegin : (s.begin (s.poll .recheck n none)).MovesSound := h.congr rfl rfl rfl rfl
  refine hbegin.updateConsumer _ fun d hd => ?_
  have hc : s.consumer? n = some c := State.mem_present.1 (List.mem_of_find?_eq_some hn)
  obtain rfl : c = d := Option.some.inj (hc.symm.trans hd)
  have huntried := List.find?_some hn
  simp only [Consumer.untried, Bool.and_eq_true] at huntried
  exact ⟨fun hwf => ⟨hwf.1, hwf.2.1, fun _ => huntried.1, hwf.2.2.2⟩, rfl, rfl, rfl, rfl, id⟩

/-! ### Attempt waits and the mains (R80, R93, R94, R97, R114) -/

theorem MoveRecord.stands_tick (r : MoveRecord) : r.Stands r.tick := by
  unfold MoveRecord.tick
  cases hwait : r.wait with
  | none => exact .refl r
  | some n =>
    have hticked (wait : Option Nat) (ended : Bool) (h : r.wf) : MoveRecord.wf { r with wait := wait, waitEnded := ended } := by
      obtain ⟨hphases, hissue, hconfirm, hqueued, hdead, hbefore, hdue, hfew⟩ := h
      rw [hwait] at hqueued hdue hfew
      exact ⟨hphases, hissue, hconfirm, fun hq => absurd (hqueued hq).2.2.1 nofun, hdead, hbefore,
        fun hd => absurd (hdue hd).1 nofun, fun _ => hfew (.inl nofun)⟩
    dsimp only
    split
    · exact ⟨⟨rfl, rfl, rfl, rfl⟩, Iff.rfl, hticked none true⟩
    · exact ⟨⟨rfl, rfl, rfl, rfl⟩, Iff.rfl, hticked (some (n - 1)) r.waitEnded⟩

theorem State.MovesSound.cycleTick {s : State} (h : s.MovesSound) : s.cycleTick.MovesSound := by
  refine h.rerecord (by simp) (by simp) (by rw [s.cycleTick_ticked]) ?_
  have hrecords : s.cycleTick.queue.records = s.queue.records.map MoveRecord.tick := by simp [State.cycleTick]
  rw [hrecords, List.forall₂_map_right_iff]
  exact List.forall₂_same.2 fun r _ => r.stands_tick

theorem State.MovesSound.mainsLeftValid {s : State} (h : s.MovesSound) : s.mainsLeftValid.MovesSound := by
  unfold State.mainsLeftValid
  split
  · next r hr =>
    split
    · next hstate =>
      simp only [Bool.and_eq_true, decide_eq_true_eq] at hstate
      exact h.putHead hr ((MoveRecord.follows_toSwitching hstate.1).stands (by simp [hstate.1]))
    · exact h
  · exact h

theorem State.MovesSound.setMainsState {s : State} (h : s.MovesSound) (st : MainsState) (good : Nat) :
    (s.setMainsState st good).MovesSound := by
  unfold State.setMainsState
  dsimp only
  split
  · exact h.congr rfl rfl rfl rfl
  · split
    · exact State.MovesSound.mainsLeftValid (h.congr rfl rfl rfl rfl)
    · exact h.congr rfl rfl rfl rfl

theorem State.MovesSound.mainsVerdict {s : State} (h : s.MovesSound) (v : CycleVerdict) :
    (s.mainsVerdict v).MovesSound := by
  unfold State.mainsVerdict
  split <;> first | exact h | exact h.setMainsState ..

theorem State.MovesSound.mainsReturn {s : State} (h : s.MovesSound) : s.mainsReturn.MovesSound := by
  unfold State.mainsReturn
  split
  · exact h.setMainsState ..
  · exact h

theorem State.MovesSound.cycleCheck {s : State} (h : s.MovesSound) (stamp : Time) : (s.cycleCheck stamp).MovesSound := by
  have hchecked {t : State} (ht : t.MovesSound) : (t.checkedAt stamp).MovesSound := ht.congr rfl rfl rfl rfl
  have hfigured (f : Figures) : (s.figured f).MovesSound := h.congr rfl rfl rfl rfl
  have hfault (c : FaultCause) : (s.recordFault c).MovesSound := h.congr rfl rfl rfl rfl
  obtain ⟨-, he⟩ | ⟨old, -, ⟨-, he⟩ | ⟨c, -, he⟩⟩ := s.cycleCheck_cases stamp <;> rw [he]
  · exact hchecked h
  · exact hchecked ((hfigured _).mainsVerdict .good)
  · exact hchecked ((hfault c).mainsVerdict (.bad c))

theorem State.MovesSound.edge {s : State} (h : s.MovesSound) (p : Phase) (stamp : Time) :
    (s.edge p stamp).MovesSound := by
  have hstamped : ({ s with mtu := s.mtu.stamped p stamp } : State).MovesSound := h.congr rfl rfl rfl rfl
  unfold State.edge
  dsimp only
  split
  · exact hstamped.mainsReturn.cycleCheck stamp
  · exact hstamped.mainsReturn

theorem State.MovesSound.acceptLevel {s : State} (h : s.MovesSound) (p : Phase) : (s.acceptLevel p).MovesSound := by
  obtain he | ⟨level, he, -⟩ | ⟨c, -, -, he⟩ := s.acceptLevel_cases p <;> rw [he]
  · exact h
  · exact h.congr rfl rfl rfl rfl
  · rw [State.risingEdge_eq]
    have hedge := State.MovesSound.edge
      (s := s.putPin p { s.mtu.pins.get p with accepted := some .high, candidate := none }) (h.congr rfl rfl rfl rfl) p c
    split
    · exact hedge.cycleTick
    · exact hedge

theorem State.MovesSound.losePhase {s : State} (h : s.MovesSound) (p : Phase) : (s.losePhase p).MovesSound := by
  have hloss : (({ s with mtu := s.mtu.lose p } : State).recordFault (.loss p)).mainsLoss.MovesSound := by
    have hlost : (({ s with mtu := s.mtu.lose p } : State).recordFault (.loss p)).MovesSound := h.congr rfl rfl rfl rfl
    unfold State.mainsLoss
    dsimp only
    split <;> first | exact hlost | exact hlost.setMainsState ..
  unfold State.losePhase
  dsimp only
  split
  · exact hloss.congr rfl rfl rfl rfl
  · exact hloss

theorem State.MovesSound.tickInternal {s : State} (h : s.MovesSound) : s.tickInternal.MovesSound :=
  State.MovesSound.cycleTick (h.congr rfl rfl rfl rfl)

theorem State.MovesSound.changeMains {s : State} (h : s.MovesSound) (m : MainsSettings) :
    (s.changeMains m).MovesSound := by
  refine State.takeAll_preserves (P := State.MovesSound) (fun _ _ h => h.congr rfl rfl rfl rfl) (fun s d h => ?_)
    (s := { s with mtu := { s.mtu with settings := m } }) (h.congr rfl rfl rfl rfl) _ _
  unfold State.takeDue
  split
  · cases d with
    | accept p => exact h.acceptLevel p
    | loss p => exact h.losePhase p
    | tick => exact h.tickInternal
  · exact h

/-- The record whose switching wait has ended becomes CONFIRMING, its first CONFIRM due (R94). -/
theorem MoveRecord.stands_toConfirming {r : MoveRecord} (hstate : r.state = .switching) : r.Stands r.toConfirming where
  plan := ⟨rfl, rfl, rfl, rfl⟩
  state := by simp [MoveRecord.toConfirming, hstate]
  wf h := by
    obtain ⟨hphases, hissue, hconfirm, -, hdead, hbefore, -, -⟩ := h
    have hfirst : r.confirmAttempts < 3 := by simp [hbefore (by simp [hstate])]
    exact ⟨hphases, hissue, hconfirm, nofun, fun _ => hdead (by simp [hstate]), fun h => absurd rfl h,
      fun _ => ⟨rfl, rfl⟩, fun _ => ⟨nofun, fun _ => hfirst⟩⟩

theorem State.headEnded_cases {s : State} {st : MoveState} {r : MoveRecord} (h : s.headEnded st = some r) :
    s.headMove = some r ∧ r.state = st ∧ r.waitEnded = true := by
  unfold State.headEnded at h
  split at h
  · next q hq =>
    split at h
    · next hst =>
      cases h
      simpa [hq] using hst
    · cases h
  · cases h

/-! ### The round (R65, R72) -/

theorem State.MovesSound.latchWindow {s : State} (h : s.MovesSound) : s.latchWindow.MovesSound := by
  unfold State.latchWindow
  split
  · have hwindow : ({ s with engine := { s.engine with window := 0 } } : State).MovesSound := h.congr rfl rfl rfl rfl
    exact hwindow.mapConsumers (f := fun c => { c with ops := 0 }) fun c =>
      ⟨fun ⟨hnone, hrecheck, htried, _, hhealth⟩ => ⟨hnone, hrecheck, htried, Nat.zero_le _, hhealth⟩, rfl, rfl, rfl, rfl, id⟩
  · exact h.congr rfl rfl rfl rfl

theorem Consumer.stands_unheld (c : Consumer) : c.Stands { c with hold := none } where
  wf h := h
  allowed := rfl
  phaseState := rfl
  recorded := rfl
  segment := rfl
  hold := nofun

theorem State.MovesSound.latch {s : State} (h : s.MovesSound) : s.latch.MovesSound := by
  have hcounted : s.latchCounted.MovesSound := by
    unfold State.latchCounted
    exact State.MovesSound.latchWindow (h.congr (by simp) (by simp) (by simp) (by simp [State.latchRound]))
  have hholds : s.latchCounted.latchHolds.MovesSound := by
    refine hcounted.mapConsumers fun c => ?_
    split
    · exact c.stands_unheld
    · exact .refl c
  have hqueue : s.latchCounted.latchHolds.latchQueue.MovesSound := (hholds.loose.weaken _).removeQueued .expired
  exact (hqueue.mapConsumers (f := Consumer.latched) fun c =>
    ⟨c.stands_untried.wf, rfl, rfl, rfl, rfl, id⟩).congr rfl rfl rfl rfl

theorem State.MovesSound.takeExpiry {s : State} (h : s.MovesSound) : s.takeExpiry.MovesSound := by
  unfold State.takeExpiry
  dsimp only
  split
  · exact h.congr rfl rfl rfl rfl
  · exact State.MovesSound.latch (h.congr rfl rfl rfl rfl)

/-- A selected move differs from its source: its target is another permitted phase (R48). -/
theorem State.MovesSound.post {s : State} (h : s.MovesSound) {ms : List Selected} (hms : ∀ m ∈ ms, m.source ≠ m.target)
    (round : RoundNo) : (s.post round ms).1.MovesSound := by
  unfold State.post
  generalize 0 = k
  induction ms generalizing s k with
  | nil => exact h
  | cons m ms ih =>
    have hone : (State.postOne round (s, k) m).1.MovesSound := by
      unfold State.postOne
      split
      · next hpost =>
        simp only [State.postable, Bool.and_eq_true, Bool.not_eq_true', decide_eq_true_eq, beq_iff_eq] at hpost
        obtain ⟨⟨⟨⟨hrun, hconsumer⟩, -⟩, hnamed⟩, hroom⟩ := hpost
        cases hc : s.consumer? m.consumer with
        | none => simp [hc] at hconsumer
        | some c =>
          simp only [hc, Bool.and_eq_true, Bool.not_eq_true', beq_iff_eq] at hconsumer
          obtain ⟨⟨⟨⟨-, hrecorded⟩, hallowed⟩, hheld⟩, hfrozen⟩ := hconsumer
          exact h.makeMove hc hrecorded hallowed (hms m List.mem_cons_self) hnamed hroom hfrozen (by simp [hheld])
            (fun _ => hrun) round
      · exact h
    exact ih hone (fun m hm => hms m (List.mem_cons_of_mem _ hm)) _

end Sys2Proof.Machine


/-! PROOFS. Every step keeps the map and the queue in agreement: the completion, the requests of the masters, the resets,
and the invariant itself. -/

namespace Sys2Proof.Machine

/-! ### What a search chooses (R48, R52) -/

/-- A candidate is an eligible entry not yet chosen, its recorded phase, and a permitted target (R48). -/
theorem WorkingSet.mem_candidates {w : WorkingSet} {chosen : List Nat} {c : Candidate} :
    c ∈ w.candidates chosen ↔ c.entry ∈ w.entries ∧ w.eligible c.entry = true ∧ c.entry.n ∉ chosen ∧
      c.entry.recorded = some c.source ∧ c.target ∈ w.targets c.entry := by
  simp only [WorkingSet.candidates, List.mem_flatMap, List.mem_filter, Bool.and_eq_true, Bool.not_eq_true',
    List.contains_eq_mem, decide_eq_false_iff_not]
  constructor
  · rintro ⟨e, ⟨he, helig, hn⟩, hc⟩
    cases hp : e.recorded with
    | none => simp [hp] at hc
    | some p =>
      simp only [hp, List.mem_map] at hc
      obtain ⟨q, hq, rfl⟩ := hc
      exact ⟨he, helig, hn, hp, hq⟩
  · rintro ⟨he, helig, hn, hp, hq⟩
    exact ⟨c.entry, ⟨he, helig, hn⟩, by simp only [hp, List.mem_map]; exact ⟨c.target, hq, rfl⟩⟩

theorem better_cases (best : Option (Candidate × Int)) (c : Candidate) (e : Int) :
    better best c e = best ∨ better best c e = some (c, e) := by
  unfold better
  split
  · split
    · exact .inr rfl
    · exact .inl rfl
  · exact .inr rfl

/-- The choice of a search is one of its candidates, with its effective gain (R52). -/
theorem WorkingSet.choose_mem {w : WorkingSet} {ws : WorkSums} {cs : List Candidate} {c : Candidate} {e : Int}
    (h : w.choose ws cs = some (c, e)) : c ∈ cs ∧ e = effective w.policy ws c := by
  have key (best : Option (Candidate × Int)) (ds : List Candidate) (hfold : ds.foldl (fun best c =>
      let e := effective w.policy ws c
      if acceptable w.policy e && w.withinLimits ws c then better best c e else best) best = some (c, e)) :
      best = some (c, e) ∨ (c ∈ ds ∧ e = effective w.policy ws c) := by
    induction ds generalizing best with
    | nil => exact .inl hfold
    | cons d ds ih =>
      obtain hbest | ⟨hmem, he⟩ := ih _ hfold
      · dsimp only at hbest
        split at hbest
        · obtain hb | hd := better_cases best d (effective w.policy ws d)
          · exact .inl (hb ▸ hbest)
          · cases hd.symm.trans hbest
            exact .inr ⟨List.mem_cons_self, rfl⟩
        · exact .inl hbest
      · exact .inr ⟨List.mem_cons_of_mem _ hmem, he⟩
  exact (key none cs h).resolve_left nofun

/-- A selected move leaves the phase that was recorded (R48). -/
theorem WorkingSet.searches_ne {w : WorkingSet} {left : Nat} {ws : WorkSums} {chosen : List Nat} {m : Selected}
    (h : m ∈ (w.searches left ws chosen).1) : m.source ≠ m.target := by
  induction left generalizing ws chosen with
  | zero => simp [WorkingSet.searches] at h
  | succ left ih =>
    simp only [WorkingSet.searches] at h
    cases hchoose : w.choose ws (w.candidates chosen) with
    | none => simp [hchoose] at h
    | some x =>
      obtain ⟨c, e⟩ := x
      simp only [hchoose, List.mem_cons] at h
      obtain rfl | h := h
      · obtain ⟨-, -, -, hp, hq⟩ := WorkingSet.mem_candidates.1 (WorkingSet.choose_mem hchoose).1
        simp only [WorkingSet.targets, List.mem_filter, hp, Bool.and_eq_true, bne_iff_ne, ne_eq, Option.some.injEq] at hq
        exact hq.2.1.2
      · exact ih h

theorem WorkingSet.selection_ne {w : WorkingSet} {m : Selected} (h : m ∈ w.selection.1) : m.source ≠ m.target := by
  unfold WorkingSet.selection at h
  split at h
  · exact WorkingSet.searches_ne h
  · simp at h

theorem State.MovesSound.complete {s : State} (h : s.MovesSound) (w : WorkingSet) : (s.complete w).MovesSound := by
  have hpost : (s.post w.round w.selection.1).1.MovesSound := h.post (fun _ hm => WorkingSet.selection_ne hm) w.round
  refine hpost.restand (by simp) (s.complete_queue w ▸ rfl)
    (State.rel_congr Consumer.Stands.refl (by simp)) (fun g hg => ?_) fun hrun => ?_
  · have hfrozen : (s.complete w).segs.frozenSet = s.segs.frozenSet := by
      rw [s.complete_segs w]
      refine List.ext_getElem? fun i => ?_
      simp only [SegTable.frozenSet, List.getElem?_map, WorkingSet.publish_getElem?, Option.map_map]
      rfl
    simpa only [State.isFrozen, hfrozen, State.post_frame] using hg
  · have hrun' : (s.complete w).engine.run = s.engine.run := by
      unfold State.complete
      dsimp only
      split <;> simp
    rwa [hrun', ← congrArg Engine.run (s.post_frame w.round w.selection.1).2.2.2.2.2.2.1]

/-! ### Requests of the masters -/

/-- A request that changes nothing that the moves read. -/
theorem State.MovesSound.answer (p : Port) : ∀ (t : State) (w : Window), t.MovesSound → (t.setWindow p w).MovesSound :=
  fun _ _ h => h.congr rfl rfl rfl rfl

/-- A fresh record is sound, UNKNOWN on NONE (R2, R20). -/
theorem Consumer.installed_wf (address segment : Nat) (allowed : PerPhase Bool) (cost : Nat) :
    (Consumer.installed address segment allowed cost).wf := by
  simp [Consumer.wf, Consumer.installed]

/-- A hold blocks the QUEUED moves of its consumer but Port C's (R16). -/
theorem State.MovesSound.hold {s : State} (h : s.MovesSound) (n : Nat) (placed : Hold) :
    ((s.updateConsumer n fun c => { c with hold := some placed }).removeQueued
      (fun r => r.consumer == n && r.origin != .portC) .cancelled).MovesSound := by
  refine State.Loose.removeQueued ?_ _
  refine h.loose.remap (by simp) (by simp) (State.rel_updateConsumer Consumer.Keeps.refl ?_)
    fun r hr hq hb => ⟨rfl, fun hmay => ?_⟩
  · exact fun c _ => ⟨fun hwf => hwf, rfl, Iff.rfl, fun _ => rfl⟩
  obtain ⟨c, hc, hfrozen, hheld, hrun⟩ := State.mayWait_iff.1 hmay
  rw [State.mayWait_iff, State.consumer?_updateConsumer]
  by_cases hn : r.consumer = n
  · subst hn
    rw [hc, if_pos rfl]
    have hport : r.origin = .portC := by simpa using hb
    exact ⟨_, rfl, by simpa [State.isFrozen] using hfrozen, fun _ => hport, by simpa using hrun⟩
  · rw [if_neg hn]
    exact ⟨c, hc, by simpa [State.isFrozen] using hfrozen, hheld, by simpa using hrun⟩

/-- STOP blocks the QUEUED moves of the Engine (R60). -/
theorem State.MovesSound.stop {s : State} (h : s.MovesSound) :
    (({ s with engine := { s.engine with run := .off } } : State).removeQueued (fun r => r.origin == .engine)
      .cancelled).MovesSound := by
  refine State.Loose.removeQueued ?_ _
  refine h.loose.remap rfl rfl (State.rel_congr Consumer.Keeps.refl rfl) fun r hr hq hb => ⟨rfl, fun hmay => ?_⟩
  obtain ⟨c, hc, hfrozen, hheld, -⟩ := State.mayWait_iff.1 hmay
  have horigin : r.origin ≠ .engine := by simpa using hb
  exact State.mayWait_iff.2 ⟨c, hc, hfrozen, hheld, fun ho => absurd ho horigin⟩

/-- Which segments are frozen after a segment record is replaced. -/
theorem State.putSegment_isFrozen (s : State) (k : Nat) (r : Segment) (g : Nat) :
    (s.putSegment k r).isFrozen g = frozenAt (s.segs.frozenSet.set k r.frozenAt.isSome) g := by
  simp [State.isFrozen, SegTable.frozenSet, State.putSegment, List.map_set]

/-- A freeze blocks the QUEUED moves of the consumers at its segment or beyond (R29). -/
theorem State.MovesSound.freeze {s : State} (h : s.MovesSound) (k : Nat) (r : Segment) :
    ((s.putSegment k r).removeQueued (s.moveAtOrBeyond k) .cancelled).MovesSound := by
  refine State.Loose.removeQueued ?_ _
  refine h.loose.remap rfl rfl (State.rel_congr Consumer.Keeps.refl rfl) fun m hm hq hb => ⟨rfl, fun hmay => ?_⟩
  obtain ⟨c, hc, hfrozen, hheld, hrun⟩ := State.mayWait_iff.1 hmay
  refine State.mayWait_iff.2 ⟨c, hc, ?_, hheld, hrun⟩
  have hbelow : c.segment < k := by simpa [State.moveAtOrBeyond, hc] using hb
  rw [State.putSegment_isFrozen, frozenAt, List.take_set_of_le hbelow]
  exact hfrozen

/-- A segment record replaced by one that is frozen only where the old one was. -/
theorem State.MovesSound.putSegment {s : State} (h : s.MovesSound) (k : Nat) {r : Segment}
    (hr : r.frozenAt = none ∨ r.frozenAt = (s.segment k).frozenAt) : (s.putSegment k r).MovesSound := by
  refine h.restand rfl rfl (State.rel_congr Consumer.Stands.refl rfl) (fun g hg => ?_) id
  rw [Bool.eq_false_iff, ne_eq, State.isFrozen_iff] at hg ⊢
  rintro ⟨j, q, hj, hq, hfrozen⟩
  simp only [State.putSegment, List.getElem?_set] at hq
  split at hq
  · next hkj =>
    subst hkj
    split at hq
    · next hlt =>
      cases hq
      obtain hr | hr := hr
      · exact hfrozen hr
      · have hk := List.getElem?_eq_getElem hlt
        exact hg ⟨k, s.segs.segments[k], hj, hk, by rwa [← State.segment_of_getElem? hk, ← hr]⟩
    · cases hq
  · exact hg ⟨j, q, hj, hq, hfrozen⟩

/-- A manual move that passes the checks 4 to 8 of R83. -/
theorem State.moveRefusal_eq_none {s : State} {p : Port} {n : Nat} {c : Consumer} {q : Phase}
    (h : s.moveRefusal p n c q = none) :
    c.ineligible q = false ∧ (p = .a → c.isHeld = false) ∧ s.isFrozen c.segment = false ∧ s.named n = false ∧
      s.queue.records.length < 16 := by
  unfold State.moveRefusal at h
  split_ifs at h with heligible hheld hfrozen hnamed hfull
  exact ⟨by simpa using heligible, fun hp => by simpa [hp] using hheld, by simpa using hfrozen, by simpa using hnamed,
    Nat.not_le.1 hfull⟩

/-- A manual move passes the checks that a queued record lives by (R83, R84). -/
theorem State.MovesSound.requestMove {s : State} (h : s.MovesSound) {p : Port} (hp : p ≠ .b) {n : Nat} {c : Consumer}
    {source target : Phase} (hc : s.consumer? n = some c) (hpasses : s.moveRefusal p n c target = none)
    (hsource : c.recorded = some source) :
    (s.makeMove n source target (moveOrigin p) s.engine.round).MovesSound := by
  obtain ⟨heligible, hheld, hfrozen, hnamed, hroom⟩ := State.moveRefusal_eq_none hpasses
  simp only [Consumer.ineligible, hsource, Bool.or_eq_false_iff, bne_eq_false_iff_eq, Bool.not_eq_false',
    beq_eq_false_iff_ne, ne_eq, Option.some.injEq] at heligible
  obtain ⟨⟨⟨-, hallowed⟩, hne⟩, -⟩ := heligible
  refine h.makeMove hc hsource hallowed hne hnamed hroom hfrozen ?_ ?_ _ <;> cases p <;>
    simp_all [moveOrigin]

/-! ### Resets (R1, R13, R101) -/

/-- After a reset the queue is empty, and no consumer is MOVING (R13, R101). -/
theorem State.movesSound_of_empty {s : State} (hlen : s.consumers.length = 96) (hempty : s.queue.records = [])
    (hmap : ∀ n c, s.consumer? n = some c → c.wf ∧ c.phaseState ≠ .moving) : s.MovesSound := by
  refine ⟨⟨hlen, fun n c hc => (hmap n c hc).1, ?_, ?_, ?_, ?_, ?_, ?_, fun n c hc hm => absurd hm (hmap n c hc).2⟩, ?_⟩ <;>
    simp [hempty]

theorem Consumer.warm_wf {c : Consumer} (h : c.wf) : c.warm.wf ∧ c.warm.phaseState ≠ .moving := by
  obtain ⟨hnone, -, -, hops, -⟩ := h
  by_cases hunknown : c.phaseState = .unknown <;> simp [Consumer.wf, Consumer.warm, hunknown, hnone, hops]

theorem State.MovesSound.warm {s : State} (h : s.MovesSound) : s.warm.MovesSound := by
  refine State.movesSound_of_empty (by simpa [State.warm] using h.loose.length) rfl fun n d hd => ?_
  have hmap := s.consumer?_mapConsumers n Consumer.warm
  rw [show s.warm.consumer? n = (s.mapConsumers Consumer.warm).consumer? n from rfl, hmap, Option.map_eq_some_iff] at hd
  obtain ⟨c, hc, rfl⟩ := hd
  exact Consumer.warm_wf (h.loose.consumers n c hc)

theorem State.reset_movesSound : State.reset.MovesSound := by
  have hnone (n : Nat) : State.reset.consumer? n = none := by
    simp only [State.reset, State.consumer?, List.getElem?_replicate]
    split <;> rfl
  exact State.movesSound_of_empty rfl rfl fun n c hc => by simp [hnone] at hc

/-! ### O55 -/

theorem exec_movesSound {i : Instr} {s t : State} (hs : s.MovesSound) (h : exec i s = .next t) : t.MovesSound := by
  have hat (u : Time) : (s.at u).MovesSound := hs.congr rfl rfl rfl rfl
  cases i with
  | powerOnReset u =>
    cases h
    exact State.reset_movesSound.congr rfl rfl rfl rfl
  | warmReset u =>
    cases h
    split
    · exact (hat u).warm
    · exact hat u
  | selectWindowClose p u =>
    cases h
    have hclosed : ((s.at u).setWindow p .closed).MovesSound := (hat u).congr rfl rfl rfl rfl
    unfold State.closeWindow
    dsimp only
    split
    · exact hclosed.warm
    · exact hclosed
  | unknownRequest p code rest =>
    obtain hnext | ⟨r, hnext⟩ := execUnknownRequest_cases p code rest s <;> cases hnext.symm.trans h
    · exact hs
    · exact State.request_preserves (P := State.MovesSound) hs (State.MovesSound.answer p) fun _ => hs
  | installConsumer p n address segment allowed cost =>
    cases h
    refine State.request_preserves (P := State.MovesSound) hs (State.MovesSound.answer p) fun _ => ?_
    split; · exact hs
    split; · exact hs
    split; · exact hs
    split; · exact hs
    next hnamed =>
    split; · exact hs
    have hput := hs.replace (Bool.eq_false_iff.2 hnamed)
      (x := some (Consumer.installed address.toNat segment.toNat (phaseSetOf allowed) cost.toNat))
      (by rintro _ ⟨⟩; exact ⟨Consumer.installed_wf .., nofun⟩)
    exact hput.congr rfl rfl rfl rfl
  | removeConsumer p n =>
    cases h
    refine State.request_preserves (P := State.MovesSound) hs (State.MovesSound.answer p) fun _ => ?_
    split; · exact hs
    split; · exact hs
    split; · exact hs
    split; · exact hs
    split; · exact hs
    next hnamed =>
    have hput : (s.putConsumer n.toNat none).MovesSound := hs.replace (Bool.eq_false_iff.2 hnamed) (by simp)
    exact hput.congr (s.remove_consumers n.toNat) (by simp) (by simp) (by simp)
  | setSegmentCount p c =>
    cases h
    refine State.request_preserves (P := State.MovesSound) hs (State.MovesSound.answer p) fun _ => ?_
    (repeat' split) <;> first
      | exact hs
      | exact hs.restand rfl rfl (State.rel_congr Consumer.Stands.refl rfl) (fun _ hg => hg) id
  | headReport p =>
    cases h
    refine State.request_preserves (P := State.MovesSound) hs (State.MovesSound.answer p) fun _ => ?_
    split
    · exact hs
    · exact hs.restand rfl rfl (State.rel_congr Consumer.Stands.refl rfl) (fun _ hg => hg) id
  | installSegment p k limit =>
    cases h
    refine State.request_preserves (P := State.MovesSound) hs (State.MovesSound.answer p) fun _ => ?_
    (repeat' split) <;> first
      | exact hs
      | exact hs.putSegment _ (.inr rfl)
  | freeze p k =>
    cases h
    refine State.request_preserves (P := State.MovesSound) hs (State.MovesSound.answer p) fun _ => ?_
    (repeat' split) <;> first
      | exact hs
      | exact hs.freeze ..
  | thaw p k =>
    cases h
    refine State.request_preserves (P := State.MovesSound) hs (State.MovesSound.answer p) fun _ => ?_
    (repeat' split) <;> first
      | exact hs
      | exact hs.putSegment _ (.inl rfl)
  | hold p n d =>
    cases h
    refine State.request_preserves (P := State.MovesSound) hs (State.MovesSound.answer p) fun _ => ?_
    (repeat' split) <;> first
      | exact hs
      | exact hs.hold ..
  | release p n =>
    cases h
    refine State.request_preserves (P := State.MovesSound) hs (State.MovesSound.answer p) fun _ => ?_
    (repeat' split) <;> first
      | exact hs
      | exact hs.updateConsumer _ fun c _ => c.stands_unheld
  | start p =>
    cases h
    refine State.request_preserves (P := State.MovesSound) hs (State.MovesSound.answer p) fun _ => ?_
    split
    · exact hs
    · exact hs.restand rfl rfl (State.rel_congr Consumer.Stands.refl rfl) (fun _ hg => hg) fun _ => rfl
  | stop p =>
    cases h
    refine State.request_preserves (P := State.MovesSound) hs (State.MovesSound.answer p) fun _ => ?_
    (repeat' split) <;> first
      | exact hs
      | exact hs.stop
  | requestMove p n q =>
    cases h
    refine State.request_preserves (P := State.MovesSound) hs (State.MovesSound.answer p) fun _ => ?_
    split; · exact hs
    next hp =>
    split; · exact hs
    split; · exact hs
    · exact hs
    next target c _ hc =>
    split; · exact hs
    next source hpasses hsource => exact hs.requestMove hp hc hpasses hsource
    · exact hs
  | setBus p enable rate u =>
    cases h
    refine State.request_preserves (P := State.MovesSound) (hat u) (State.MovesSound.answer p) fun _ => ?_
    (repeat' split) <;> first
      | exact hat u
      | exact State.changeBus_preserves (P := State.MovesSound) (s := s.at u) (fun _ _ h => h.congr rfl rfl rfl rfl)
          (fun _ t res _ h => h.result t res) (hat u) ..
  | setMains p f band tol settle qualify u =>
    cases h
    refine State.request_preserves (P := State.MovesSound) (hat u) (State.MovesSound.answer p) fun _ => ?_
    (repeat' split) <;> first
      | exact hat u
      | exact (hat u).changeMains _
  | qualifyTimeExpiry p u =>
    cases h
    exact State.event_preserves (P := State.MovesSound) (hat u) fun _ _ => (hat u).acceptLevel p
  | lossExpiry p u =>
    cases h
    exact State.event_preserves (P := State.MovesSound) (hat u) fun _ _ => (hat u).losePhase p
  | internalTick u =>
    cases h
    exact State.event_preserves (P := State.MovesSound) (hat u) fun _ _ => (hat u).tickInternal
  | resetnLow u =>
    cases h
    exact State.event_preserves (P := State.MovesSound) (hat u) fun _ _ =>
      (hat u).congr (by simp) (by simp) (by simp) (by simp)
  | roundTimerExpiry | windowExpiry | holdExpiry | expired =>
    cases h
    exact State.event_preserves (P := State.MovesSound) hs fun _ _ => hs.takeExpiry
  | completion =>
    cases h
    split
    · exact State.event_preserves (P := State.MovesSound) hs fun _ _ => hs.complete _
    · exact hs
  | repeatDue =>
    cases h
    split
    · next r hr =>
      refine State.event_preserves (P := State.MovesSound) hs fun _ _ => ?_
      obtain ⟨hhead, hstate, hended⟩ := State.headEnded_cases hr
      have hmem : r ∈ s.queue.records := hs.loose.queued_of_flying hhead ▸ List.mem_cons_self
      have hfew := ((hs.loose.records r hmem).1.2.2.2.2.2.2.2 (.inr (.inl hended))).1
      unfold State.repeatOrSwitch
      split
      · exact hs.putHead hhead ((MoveRecord.follows_due (by simp [hstate]) hfew (by simp [hstate])).stands (by simp [hstate]))
      · exact hs.putHead hhead ((MoveRecord.follows_toSwitching hstate).stands (by simp [hstate]))
    · exact hs
  | switchingWaitEnd =>
    cases h
    split
    · next r hr =>
      refine State.event_preserves (P := State.MovesSound) hs fun _ _ => ?_
      obtain ⟨hhead, hstate, -⟩ := State.headEnded_cases hr
      exact hs.putHead hhead (MoveRecord.stands_toConfirming hstate)
    · exact hs
  | confirmRetryDue =>
    cases h
    split
    · next r hr =>
      refine State.event_preserves (P := State.MovesSound) hs fun _ _ => ?_
      obtain ⟨hhead, hstate, hended⟩ := State.headEnded_cases hr
      have hmem : r ∈ s.queue.records := hs.loose.queued_of_flying hhead ▸ List.mem_cons_self
      have hfew := ((hs.loose.records r hmem).1.2.2.2.2.2.2.2 (.inr (.inl hended))).2
      exact hs.putHead hhead ((MoveRecord.follows_due (by simp [hstate]) (by simp [hstate]) hfew).stands (by simp [hstate]))
    · exact hs
  | issueGrant =>
    cases h
    split
    · next r hr => exact State.event_preserves (P := State.MovesSound) hs fun _ _ => hs.grantIssue hr
    · exact hs
  | confirmGrant =>
    cases h
    split
    · next r hr => exact State.event_preserves (P := State.MovesSound) hs fun _ _ => hs.grantConfirm hr
    · exact hs
  | recheckGrant =>
    cases h
    split
    · next n c hn => exact State.event_preserves (P := State.MovesSound) hs fun _ _ => hs.grantRecheck hn
    · exact hs
  | queryGrant | sweepGrant =>
    cases h
    split
    · exact State.event_preserves (P := State.MovesSound) hs fun _ _ =>
        hs.congr (by simp) (by simp) (by simp) (by simp)
    · exact hs
  | requestSent | contention | foreignTalker | quietLimit | quietTimeEnd | joinWaitComplete | noReply | gap
  | replyFailed | state | answer | frxAtSpace =>
    exact exec_line_preserves (P := State.MovesSound) (fun _ _ h => h.congr rfl rfl rfl rfl)
      (fun _ t res _ h => h.result t res) (fun _ _ h => h.congr rfl rfl rfl rfl) rfl hs h
  | selectWindowOpen | zcPinChange =>
    cases h
    exact hs.congr (by simp) (by simp) (by simp) (by simp)
  | _ =>
    cases h
    refine State.request_preserves (P := State.MovesSound) hs (State.MovesSound.answer _) fun _ => ?_
    (repeat' split) <;> first
      | exact hs
      | exact State.MovesSound.congr (s := s) hs rfl rfl rfl rfl

/-- Settles O55: every change of the map is one that the queue follows, and what a block names leaves the queue with it. -/
theorem everyStepKeepsMapAndQueueInAgreement : Obligations.EveryStepKeepsMapAndQueueInAgreement := by
  intro s t hmoves hblocked h
  rw [← State.movesSound_iff]
  exact step_preserves (P := State.MovesSound) (fun _ _ h => h.congr rfl rfl rfl rfl) (fun _ _ _ => exec_movesSound)
    (s.movesSound_iff.2 ⟨hmoves, hblocked⟩) h

end Sys2Proof.Machine


/-! PROOFS. The machine, the resets, the select windows (10_master_ports.md), and which commands touch the queue of waiting
commands and the round number. -/

namespace Sys2Proof.Machine

/-! ### O1, O2 -/

/-- Settles O1, by unfolding a step on either queue. -/
theorem stepTakesTheFrontCommand : Obligations.StepTakesTheFrontCommand :=
  fun _ _ _ _ _ => ⟨rfl, rfl, rfl, rfl⟩

theorem State.closeWindow_pending (s : State) (p : Port) : (s.closeWindow p).pending = s.pending := by
  unfold State.closeWindow
  dsimp only
  split <;> rfl

/-- No command touches the queue of waiting commands. -/
theorem exec_pending {i : Instr} {s t : State} (h : exec i s = .next t) : t.pending = s.pending := by
  cases i with
  | powerOnReset =>
    cases h
    rfl
  | warmReset =>
    cases h
    split <;> rfl
  | selectWindowClose p u =>
    cases h
    exact (s.at u).closeWindow_pending p
  | unknownRequest p code rest =>
    obtain hnext | ⟨r, hnext⟩ := execUnknownRequest_cases p code rest s <;> cases hnext.symm.trans h
    · rfl
    · exact State.request_keeps State.pending (fun _ _ => rfl) rfl
  | selectWindowOpen | zcPinChange =>
    cases h
    simp
  | completion | repeatDue | switchingWaitEnd | confirmRetryDue | issueGrant | confirmGrant | recheckGrant | queryGrant
  | sweepGrant =>
    cases h
    split
    · exact State.event_keeps State.pending (by simp)
    · rfl
  | frxAtSpace u =>
    cases h
    exact State.event_keeps State.pending (by simp)
  | resetnLow | qualifyTimeExpiry | lossExpiry | internalTick | requestSent | contention | foreignTalker | quietLimit
  | quietTimeEnd | joinWaitComplete | noReply | gap | replyFailed | state | answer
  | roundTimerExpiry | windowExpiry | holdExpiry | expired =>
    cases h
    exact State.event_keeps State.pending (by simp)
  | _ =>
    cases h
    refine State.request_keeps State.pending (fun _ _ => rfl) ?_
    (repeat' split) <;> simp

/-- Every command has a next state: each meaning is one (log 2). -/
theorem exec_isNext (i : Instr) (s : State) : ∃ t, exec i s = .next t := by
  cases i <;> exact ⟨_, rfl⟩

/-- Settles O2, from the next state that every meaning gives. -/
theorem everyCommandAnswersANextState : Obligations.EveryCommandAnswersANextState := fun i s =>
  let ⟨t, h⟩ := exec_isNext i s
  ⟨t, h, exec_pending h⟩

/-! ### Resets (R178, R179) -/

theorem Window.drop_eq (w : Window) : w.drop = if w = .closed then .closed else .abandoned := by
  cases w <;> rfl

/-- Settles O3: POR as the model has it, with the windows dropped. -/
theorem powerOnResetLeavesTheStatedValues : Obligations.PowerOnResetLeavesTheStatedValues := by
  refine ⟨fun s t => ?_, rfl⟩
  simp only [← Window.drop_eq]
  rfl

theorem State.hold_eq (s : State) :
    s.hold = { s with
      held := true, restartDue := false
      fbc := { s.fbc with link := if s.txn?.isSome then .online (.quiet s.time s.time) else s.fbc.link }
      ports := s.ports.map fun q => { q with window := if q.window = .closed then .closed else .abandoned } } := by
  simp only [← Window.drop_eq, State.hold]
  cases s.txn? <;> rfl

/-- Settles O4, command by command in a part that is held and in one that is not. -/
theorem resetHoldEndsInAWarmReset : Obligations.ResetHoldEndsInAWarmReset := by
  intro s t
  refine ⟨fun hfree => ?low, fun hheld => ?lowAgain, fun hfree => ?ignored, fun hheld => ?warm⟩
  case low =>
    have hevent : (s.at t).event true State.hold = (s.at t).hold := State.event_of_true _ hfree rfl
    exact congrArg Host.Outcome.next (hevent.trans (s.at t).hold_eq)
  case lowAgain =>
    exact congrArg Host.Outcome.next (State.event_of_false _ (.inl hheld))
  case ignored => exact congrArg Host.Outcome.next (if_neg (by simp [hfree]))
  case warm =>
    refine congrArg Host.Outcome.next ((if_pos hheld).trans ?_)
    simp only [← Window.drop_eq]
    rfl

/-- Settles O59, invariant by invariant. -/
theorem resetMeetsEveryInvariant : Obligations.ResetMeetsEveryInvariant := by
  obtain ⟨hmoves, hblocked⟩ := State.reset.movesSound_iff.1 State.reset_movesSound
  refine ⟨by decide, hmoves, hblocked, ?mains, State.reset_feederWf, ?arbiter⟩
  case mains =>
    obtain ⟨hsound, hpins⟩ := Mtu.reset_sound .low .low .low 0 (m := MainsSettings.default) rfl
    exact State.reset.mainsWf_iff.2 ⟨hsound, fun _ => hpins⟩
  case arbiter => exact State.reset.arbiterWf_iff.2 ⟨rfl, Arbiter.reset_sound⟩

/-! ### The hold (R178) -/

theorem State.request_of_held {s : State} (hheld : s.held = true) (p : Port) (judge : State → State × Answer) :
    s.request p judge = s :=
  State.request_of_not_taken judge (by simp [State.takesRequest, hheld])

theorem State.event_of_held {s : State} (hheld : s.held = true) (cond : Bool) (effect : State → State) :
    s.event cond effect = s :=
  State.event_of_false effect (.inl hheld)

/-- Settles O5: held, the part takes neither a request nor an event. -/
theorem heldPartTakesNothing : Obligations.HeldPartTakesNothing := by
  intro s i hheld
  refine ⟨fun p => ⟨by simp [State.takesRequest, hheld], by simp [State.attention, hheld]⟩, by simp [State.fde, hheld],
    fun k => by simp [State.ftx, hheld], ?_⟩
  have hat (u : Time) : (s.at u).held = true := hheld
  cases i with
  | powerOnReset | warmReset | selectWindowOpen | selectWindowClose | zcPinChange => trivial
  | frxAtSpace u =>
    refine congrArg Host.Outcome.next ?_
    rw [State.event_of_held (hat u.time)]
    cases u.stays <;> rfl
  | unknownRequest p code rest =>
    refine ⟨s.time, ?_⟩
    obtain hnext | ⟨r, hnext⟩ := execUnknownRequest_cases p code rest s
    · exact hnext
    · exact hnext.trans (congrArg Host.Outcome.next (State.request_of_held hheld ..))
  | setMains p f band tol settle qualify u | setBus p enable rate u =>
    exact ⟨u, congrArg Host.Outcome.next (State.request_of_held (hat u) ..)⟩
  | resetnLow u | qualifyTimeExpiry _ u | lossExpiry _ u | internalTick u | requestSent _ u | contention _ u
  | foreignTalker u | quietLimit u | quietTimeEnd u | joinWaitComplete u | noReply u | gap _ u | replyFailed _ u =>
    exact ⟨u, congrArg Host.Outcome.next (State.event_of_held (hat u) ..)⟩
  | state _ _ _ _ u | answer _ _ u =>
    exact ⟨u.finish, congrArg Host.Outcome.next (State.event_of_held (hat u.finish) ..)⟩
  | roundTimerExpiry | windowExpiry | holdExpiry | expired =>
    exact ⟨s.time, congrArg Host.Outcome.next (State.event_of_held hheld ..)⟩
  | completion | repeatDue | switchingWaitEnd | confirmRetryDue | issueGrant | confirmGrant | recheckGrant | queryGrant
  | sweepGrant =>
    refine ⟨s.time, congrArg Host.Outcome.next ?_⟩
    split
    · exact State.event_of_held hheld ..
    · rfl
  | _ => exact ⟨s.time, congrArg Host.Outcome.next (State.request_of_held hheld ..)⟩

/-! ### Select windows (R166, R177) -/

/-- The bytes of a window's answer in turn, then 00h (R167). -/
theorem Window.shiftedOut_eq (w : Window) (k : Nat) :
    w.shiftedOut k = match w with
      | .answered bytes => if h : k < bytes.length then bytes[k] else 0
      | _ => 0 := by
  cases w with
  | answered bytes =>
    simp only [Window.shiftedOut, List.getD_eq_getElem?_getD]
    split
    · next h => simp [h]
    · next h => simp [List.getElem?_eq_none (Nat.le_of_not_lt h)]
  | _ => rfl

/-- Settles O6, window by window; a RESTART due is the warm reset of the part without it. -/
theorem selectWindowsOpenAndClose : Obligations.SelectWindowsOpenAndClose := by
  intro s p t
  refine ⟨fun hclosed => ?opens, fun hopen => ?stays, fun hnot => ?closes, fun h => ?restart, fun hdue hfree => ?taken,
    fun k => Window.shiftedOut_eq _ k⟩
  case opens => exact congrArg Host.Outcome.next (if_pos hclosed)
  case stays => exact congrArg Host.Outcome.next (if_neg hopen)
  case closes =>
    refine congrArg Host.Outcome.next (if_neg ?_)
    rintro ⟨hp, hdue, hheld⟩
    obtain h | h | h := hnot
    · exact h hp
    · exact absurd (hdue.symm.trans h) nofun
    · simp [State.setWindow, State.at, h] at hheld
  case restart => exact congrArg Host.Outcome.next (State.request_of_okay h rfl)
  case taken =>
    refine ⟨((s.at t).setWindow .a .closed).warm, congrArg Host.Outcome.next (if_pos ⟨rfl, hdue, ?_⟩), rfl⟩
    simp [hfree]

/-! ### The round number (R63) -/

theorem State.complete_round (s : State) (w : WorkingSet) : (s.complete w).engine.round = s.engine.round := by
  unfold State.complete
  dsimp only
  split <;> simp

/-- An expiry that comes while the Engine is free counts one round, and the round in hand is the new one (R62, R63). -/
theorem State.takeExpiry_round (s : State) :
    s.takeExpiry.engine.round = s.engine.round ∨
    (s.engine.work = none ∧ s.takeExpiry.engine.round = s.engine.round + 1 ∧
      ∃ w, s.takeExpiry.engine.work = some w ∧ w.round = s.takeExpiry.engine.round) := by
  cases hwork : s.engine.work with
  | some w =>
    rw [State.takeExpiry_of_busy hwork]
    exact .inl rfl
  | none =>
    rw [State.takeExpiry_of_free hwork]
    exact .inr ⟨rfl, State.latch_round _, _, rfl, rfl⟩

/-- The commands of the expiries inside a latch (R61, R64, R66, R18). -/
def isExpiry (i : Instr) : Prop := i = .roundTimerExpiry ∨ i = .windowExpiry ∨ i = .holdExpiry ∨ i = .expired

/-- Every command but POR and the expiries leaves the round number. -/
theorem exec_round {i : Instr} {s t : State} (hpor : ∀ u, i ≠ .powerOnReset u) (hexpiry : ¬isExpiry i)
    (h : exec i s = .next t) : t.engine.round = s.engine.round := by
  have hticked {e : Engine} (he : s.engine.Ticked e) : e.round = s.engine.round := by rw [he]
  cases i with
  | powerOnReset u => exact absurd rfl (hpor u)
  | roundTimerExpiry | windowExpiry | holdExpiry | expired => simp [isExpiry] at hexpiry
  | warmReset =>
    cases h
    split <;> rfl
  | selectWindowClose p u =>
    cases h
    unfold State.closeWindow
    dsimp only
    split <;> rfl
  | unknownRequest p code rest =>
    obtain hnext | ⟨r, hnext⟩ := execUnknownRequest_cases p code rest s <;> cases hnext.symm.trans h
    · rfl
    · exact State.request_keeps (·.engine.round) (fun _ _ => rfl) rfl
  | setMains p f band tol settle qualify u =>
    cases h
    refine State.request_keeps (·.engine.round) (s := s.at u) (fun _ _ => rfl) ?_
    (repeat' split) <;> first
      | rfl
      | exact hticked (State.changeMains_ticked _ _)
  | qualifyTimeExpiry p u =>
    cases h
    exact State.event_keeps (·.engine.round) (s := s.at u) (hticked (State.acceptLevel_ticked _ _))
  | internalTick u =>
    cases h
    exact State.event_keeps (·.engine.round) (s := s.at u) (hticked (State.cycleTick_ticked _))
  | completion =>
    cases h
    split
    · exact State.event_keeps (·.engine.round) (State.complete_round ..)
    · rfl
  | selectWindowOpen | zcPinChange =>
    cases h
    simp
  | repeatDue | switchingWaitEnd | confirmRetryDue | issueGrant | confirmGrant | recheckGrant | queryGrant
  | sweepGrant =>
    cases h
    split
    · exact State.event_keeps (·.engine.round) (by simp)
    · rfl
  | resetnLow | lossExpiry | requestSent | contention | foreignTalker | quietLimit
  | quietTimeEnd | joinWaitComplete | noReply | gap | replyFailed | state | answer | frxAtSpace =>
    cases h
    exact State.event_keeps (·.engine.round) (by simp)
  | _ =>
    cases h
    refine State.request_keeps (·.engine.round) (fun _ _ => rfl) ?_
    (repeat' split) <;> simp

/-- The condition of every expiry's command is that an expiry waits (R61; log 4). -/
theorem exec_expiry {i : Instr} {s t : State} (hi : isExpiry i) (h : exec i s = .next t) :
    t = s ∨ (s.held = false ∧ s.engine.expiryDue = true ∧ t = s.takeExpiry) := by
  have key (cond : Bool) (hcond : cond = true → s.engine.expiryDue = true)
      (ht : Host.Outcome.next (s.event cond State.takeExpiry) = (.next t : Step)) :
      t = s ∨ (s.held = false ∧ s.engine.expiryDue = true ∧ t = s.takeExpiry) := by
    cases ht
    unfold State.event
    split
    · next hc =>
      simp only [Bool.and_eq_true, Bool.not_eq_true'] at hc
      exact .inr ⟨hc.1, hcond hc.2, rfl⟩
    · exact .inl rfl
  obtain rfl | rfl | rfl | rfl := hi
  · exact key s.engine.expiryDue id h
  all_goals
    refine key _ (fun hc => ?_) h
    simp only [State.windowExpires, State.holdExpires, State.recordExpires, State.latchDue, Bool.and_eq_true] at hc
    exact hc.1.1

/-- Settles O60: POR, an expiry taken, or a command that leaves the round number. -/
theorem roundNumberCountsTheLatches : Obligations.RoundNumberCountsTheLatches := by
  intro i s t h
  by_cases hpor : ∃ u, i = .powerOnReset u
  · obtain ⟨u, rfl⟩ := hpor
    cases h
    exact .inr (.inl ⟨⟨u, rfl⟩, rfl⟩)
  by_cases hexpiry : isExpiry i
  · obtain rfl | ⟨hfree, hdue, rfl⟩ := exec_expiry hexpiry h
    · exact .inl rfl
    · obtain hsame | ⟨hwork, hround, hw⟩ := s.takeExpiry_round
      · exact .inl hsame
      · exact .inr (.inr ⟨hexpiry, hfree, hdue, hwork, hround, hw⟩)
  · exact .inl (exec_round (fun u hu => hpor ⟨u, hu⟩) hexpiry h)

end Sys2Proof.Machine


/-! PROOFS. What every request shares: the rights, requests outside the rules, and the coding of requests in a window's
stream (10_master_ports.md, sections 10.1 to 10.3). -/

namespace Sys2Proof.Machine

/-! ### Requests outside the rules (R166, R167) -/

/-- A code, a count and as many bytes are a request, whatever follows them (R166). -/
theorem splitRequest_append {code count : Byte} {params : List Byte} (h : params.length = count.toNat)
    (after : List Byte) : splitRequest (code :: count :: (params ++ after)) = some (code, params) := by
  simp [splitRequest, ← h]

/-- Fewer bytes than the count are no request yet (R166). -/
theorem splitRequest_short {code count : Byte} {params : List Byte} (h : params.length < count.toNat) :
    splitRequest (code :: count :: params) = none :=
  if_neg (Nat.not_le.2 h)

/-- The bytes of a complete request that is not the catalogue's: UNKNOWN, FORMAT, or no event here (R167; log 11). -/
theorem execUnknownRequest_split {p : Port} {code : Byte} {rest params : List Byte} (s : State)
    (h : splitRequest (code :: rest) = some (code, params)) :
    execUnknownRequest p code rest s = .next (match catalogueCount code with
      | none => s.request p fun s => (s, refuse .unknown)
      | some n => if params.length = n then s else s.request p fun s => (s, refuse .format)) := by
  simp only [execUnknownRequest, h] <;> rfl

theorem execUnknownRequest_incomplete {p : Port} {code : Byte} {rest : List Byte} (s : State)
    (h : splitRequest (code :: rest) = none) : execUnknownRequest p code rest s = .next s := by
  simp only [execUnknownRequest, h]

/-- A request whose port takes none changes nothing but the told time (R166, R178). -/
theorem exec_not_taken {s : State} {i : Instr} {p : Port}
    (hi : requestPort i = some p ∨ ∃ code rest, i = .unknownRequest p code rest) (h : s.takesRequest p = false) :
    exec i s = .next { s with time := requestTime s.time i } := by
  obtain hport | ⟨code, rest, rfl⟩ := hi
  · cases i with
    | setMains q f band tol settle qualify u | setBus q enable rate u =>
      cases hport
      exact congrArg Host.Outcome.next (State.request_of_not_taken (s := s.at u) _ h)
    | powerOnReset | resetnLow | warmReset | selectWindowClose | unknownRequest | roundTimerExpiry | windowExpiry
    | holdExpiry | expired | completion | zcPinChange | qualifyTimeExpiry | lossExpiry | internalTick | repeatDue
    | switchingWaitEnd | confirmRetryDue | issueGrant | confirmGrant | recheckGrant | queryGrant | sweepGrant
    | requestSent | contention | foreignTalker | quietLimit | quietTimeEnd | joinWaitComplete | noReply | gap
    | replyFailed | state | answer | selectWindowOpen | frxAtSpace => cases hport
    | _ =>
      cases hport
      exact congrArg Host.Outcome.next (State.request_of_not_taken _ h)
  · obtain hnext | ⟨r, hnext⟩ := execUnknownRequest_cases p code rest s
    · exact hnext
    · exact hnext.trans (congrArg Host.Outcome.next (State.request_of_not_taken _ h))

/-- Settles O7: what is complete and outside the catalogue is refused, what is incomplete or not taken does nothing. -/
theorem requestsOutsideTheRulesHaveNoEffect : Obligations.RequestsOutsideTheRulesHaveNoEffect := by
  refine ⟨fun s p code count params after h hlen => ?complete, fun s p code rest hrest => ?incomplete,
    fun s i p hi h => exec_not_taken hi h⟩
  case complete =>
    have hreply := execUnknownRequest_split (p := p) s (splitRequest_append (code := code) hlen after)
    refine ⟨fun hcode => hreply.trans ?_, fun n hcode hne => hreply.trans ?_, fun hcode => hreply.trans ?_⟩ <;>
      simp only [hcode]
    · exact congrArg Host.Outcome.next (State.request_of_refused (r := .unknown) h rfl)
    · rw [if_neg (hlen ▸ hne)]
      exact congrArg Host.Outcome.next (State.request_of_refused (r := .format) h rfl)
    · rw [if_pos hlen]
  case incomplete =>
    refine execUnknownRequest_incomplete s ?_
    obtain rfl | ⟨count, params, rfl, hshort⟩ := hrest
    · rfl
    · exact splitRequest_short hshort

/-! ### Rights (R170) -/

/-- A request that checks the right first and finds it missing. -/
theorem State.request_of_rights {s : State} {p : Port} {judge : State → State × Answer} (h : s.takesRequest p = true)
    (hj : judge s = (s, refuse .rights)) :
    (.next (s.request p judge) : Step) = .next (s.setWindow p (.answered [1, 3])) :=
  congrArg Host.Outcome.next (State.request_of_refused h hj)

/-- Settles O8: each request looks at the right before it looks at anything else. -/
theorem requestsWithoutTheirRightAreRefused : Obligations.RequestsWithoutTheirRightAreRefused := by
  intro s i p hport hask h
  cases i with
  | writePolicy q | commitPolicy q | discardPolicy q | start q | restart q | freeze q | thaw q | headReport q | hold q
  | release q =>
    cases hport
    exact State.request_of_rights h (if_pos (by simpa [mayAsk] using hask))
  | stop q | requestMove q =>
    cases hport
    exact State.request_of_rights h (if_pos (by cases p <;> simp [mayAsk] at hask ⊢))
  | installConsumer q | removeConsumer q | setSegmentCount q | installSegment q =>
    cases hport
    exact State.request_of_rights h (if_pos (by cases p <;> simp [mayAsk, mayInstall] at hask ⊢))
  | setMains q f band tol settle qualify u | setBus q enable rate u =>
    cases hport
    exact State.request_of_rights (s := s.at u) h (if_pos (by cases p <;> simp [mayAsk] at hask ⊢))
  | _ => cases hask

/-! ### Bits and bytes of a window (R166) -/

theorem byteOfBits_getLsbD : ∀ b : Byte, byteOfBits (b.getLsbD 7) (b.getLsbD 6) (b.getLsbD 5) (b.getLsbD 4)
    (b.getLsbD 3) (b.getLsbD 2) (b.getLsbD 1) (b.getLsbD 0) = b := by decide

/-- The bits of some bytes are shifted in as these bytes. -/
theorem bytesOfBits_flatMap (bs : List Byte) : bytesOfBits (bs.flatMap bitsOfByte) = bs := by
  induction bs with
  | nil => rfl
  | cons b bs ih =>
    rw [List.flatMap_cons]
    show byteOfBits _ _ _ _ _ _ _ _ :: bytesOfBits (bs.flatMap bitsOfByte) = b :: bs
    rw [byteOfBits_getLsbD, ih]

/-! ### The catalogue (section 10.3, R168) -/

theorem word16_bytes (v : BitVec 16) : word16 (v.extractLsb' 8 8) (v.extractLsb' 0 8) = v := bytes_joined v

theorem word32_bytes (v : BitVec 32) :
    word32 (v.extractLsb' 24 8) (v.extractLsb' 16 8) (v.extractLsb' 8 8) (v.extractLsb' 0 8) = v := by
  rw [word32, BitVec.extractLsb'_append_extractLsb'_eq_extractLsb' (show 24 = 16 + 8 from rfl),
    BitVec.extractLsb'_append_extractLsb'_eq_extractLsb' (show 16 = 8 + 8 from rfl),
    BitVec.extractLsb'_append_extractLsb'_eq_extractLsb' (show 8 = 0 + 8 from rfl)]
  exact BitVec.extractLsb'_eq_self

theorem bytes16_word (hi lo : Byte) : bytes16 (word16 hi lo) = [hi, lo] := by
  rw [bytes16, word16, BitVec.extractLsb'_append_eq_left, BitVec.extractLsb'_append_eq_right]

theorem bytes32_word (b3 b2 b1 b0 : Byte) : bytes32 (word32 b3 b2 b1 b0) = [b3, b2, b1, b0] := by
  have h3 : (word32 b3 b2 b1 b0).extractLsb' 24 8 = b3 := by
    rw [word32, BitVec.extractLsb'_append_eq_of_le (by decide), BitVec.extractLsb'_append_eq_of_le (by decide)]
    exact BitVec.extractLsb'_append_eq_left
  have h2 : (word32 b3 b2 b1 b0).extractLsb' 16 8 = b2 := by
    rw [word32, BitVec.extractLsb'_append_eq_of_le (by decide), BitVec.extractLsb'_append_eq_of_le (by decide)]
    exact BitVec.extractLsb'_append_eq_right
  have h1 : (word32 b3 b2 b1 b0).extractLsb' 8 8 = b1 := by
    rw [word32, BitVec.extractLsb'_append_eq_of_le (by decide)]
    exact BitVec.extractLsb'_append_eq_right
  rw [bytes32, h3, h2, h1, word32, BitVec.extractLsb'_append_eq_right]

theorem take0_eq_some {i j : Instr} {ps : List Byte} : take0 i ps = some j ↔ ps = [] ∧ i = j := by
  unfold take0
  split <;> simp_all

theorem take1_eq_some {f : Byte → Instr} {j : Instr} {ps : List Byte} :
    take1 f ps = some j ↔ ∃ a, ps = [a] ∧ f a = j := by
  unfold take1
  split <;> simp_all

theorem take2_eq_some {f : Byte → Byte → Instr} {j : Instr} {ps : List Byte} :
    take2 f ps = some j ↔ ∃ a b, ps = [a, b] ∧ f a b = j := by
  unfold take2
  split <;> simp_all

theorem take3_eq_some {f : Byte → Byte → Byte → Instr} {j : Instr} {ps : List Byte} :
    take3 f ps = some j ↔ ∃ a b c, ps = [a, b, c] ∧ f a b c = j := by
  unfold take3
  split <;> simp_all

theorem take5_eq_some {f : Byte → Byte → Byte → Byte → Byte → Instr} {j : Instr} {ps : List Byte} :
    take5 f ps = some j ↔ ∃ a b c d e, ps = [a, b, c, d, e] ∧ f a b c d e = j := by
  unfold take5
  split <;> simp_all

theorem take7_eq_some {f : Byte → Byte → Byte → Byte → Byte → Byte → Byte → Instr} {j : Instr} {ps : List Byte} :
    take7 f ps = some j ↔ ∃ a b c d e g h, ps = [a, b, c, d, e, g, h] ∧ f a b c d e g h = j := by
  unfold take7
  split <;> simp_all

theorem takeWords6_eq_some {f : BitVec 16 → BitVec 16 → BitVec 16 → BitVec 16 → BitVec 16 → BitVec 16 → Instr}
    {j : Instr} {ps : List Byte} :
    takeWords6 f ps = some j ↔ ∃ a1 a0 b1 b0 c1 c0 d1 d0 e1 e0 g1 g0,
      ps = [a1, a0, b1, b0, c1, c0, d1, d0, e1, e0, g1, g0] ∧
      f (word16 a1 a0) (word16 b1 b0) (word16 c1 c0) (word16 d1 d0) (word16 e1 e0) (word16 g1 g0) = j := by
  unfold takeWords6
  split <;> simp_all

/-- The bytes that spell a request spell it on its port, at its time, with the catalogue's count. -/
theorem requestOf_requestBytes {i : Instr} {code : Byte} {params : List Byte} (d : Time)
    (h : requestBytes i = some (code, params)) :
    ∃ p, requestPort i = some p ∧ requestOf p (requestTime d i) code params = some i ∧
      catalogueCount code = some params.length := by
  cases i with
  | writePolicy p f v =>
    cases h
    exact ⟨p, rfl, congrArg (fun v => some (Instr.writePolicy p f v)) (word32_bytes v), rfl⟩
  | installSegment p k limit =>
    cases h
    exact ⟨p, rfl, congrArg (fun v => some (Instr.installSegment p k v)) (word16_bytes limit), rfl⟩
  | setBus p enable rate u =>
    cases h
    exact ⟨p, rfl, congrArg (fun v => some (Instr.setBus p enable v u)) (word16_bytes rate), rfl⟩
  | clearFlags p set =>
    cases h
    exact ⟨p, rfl, congrArg (fun v => some (Instr.clearFlags p v)) (word16_bytes set), rfl⟩
  | setMask p set =>
    cases h
    exact ⟨p, rfl, congrArg (fun v => some (Instr.setMask p v)) (word16_bytes set), rfl⟩
  | setMains p f band tol settle qualify u =>
    cases h
    exact ⟨p, rfl, congrArg₂ (fun b t => some (Instr.setMains p f b t settle qualify u)) (word16_bytes band)
      (word16_bytes tol), rfl⟩
  | headReport p x1 y1 x2 y2 x3 y3 =>
    cases h
    refine ⟨p, rfl, ?_, rfl⟩
    show some (Instr.headReport p (word16 _ _) (word16 _ _) (word16 _ _) (word16 _ _) (word16 _ _) (word16 _ _)) = _
    simp only [word16_bytes]
  | powerOnReset | resetnLow | warmReset | selectWindowClose | unknownRequest | roundTimerExpiry | windowExpiry
  | holdExpiry | expired | completion | zcPinChange | qualifyTimeExpiry | lossExpiry | internalTick | repeatDue
  | switchingWaitEnd | confirmRetryDue | issueGrant | confirmGrant | recheckGrant | queryGrant | sweepGrant
  | requestSent | contention | foreignTalker | quietLimit | quietTimeEnd | joinWaitComplete | noReply | gap
  | replyFailed | state | answer | selectWindowOpen | frxAtSpace => cases h
  | _ p =>
    cases h
    exact ⟨p, rfl, rfl, rfl⟩

/-- What a code and its bytes spell is spelled by them. -/
theorem requestBytes_requestOf {p : Port} {t : Time} {code : Byte} {params : List Byte} {i : Instr}
    (h : requestOf p t code params = some i) : requestBytes i = some (code, params) ∧ requestPort i = some p := by
  have hcode {n : Nat} (hn : n < 256) (h : code.toNat = n) : code = BitVec.ofNat 8 n :=
    BitVec.eq_of_toNat_eq (by rw [h, BitVec.toNat_ofNat, Nat.mod_eq_of_lt hn])
  unfold requestOf at h
  split at h
  case h_31 => cases h
  all_goals
    rename_i hc
    rw [hcode (by decide) hc]
    simp only [take0_eq_some, take1_eq_some, take2_eq_some, take3_eq_some, take5_eq_some, take7_eq_some,
      takeWords6_eq_some] at h
  case h_10 =>
    obtain ⟨f, v3, v2, v1, v0, rfl, rfl⟩ := h
    simp [requestBytes, requestPort, bytes32_word]
  case h_23 =>
    obtain ⟨_, _, _, _, _, _, _, _, _, _, _, _, rfl, rfl⟩ := h
    simp [requestBytes, requestPort, bytes16_word]
  case h_19 =>
    obtain ⟨_, _, _, _, _, _, _, rfl, rfl⟩ := h
    simp [requestBytes, requestPort, bytes16_word]
  case h_18 | h_20 =>
    obtain ⟨_, _, _, rfl, rfl⟩ := h
    simp [requestBytes, requestPort, bytes16_word]
  case h_15 =>
    obtain ⟨_, _, _, _, _, rfl, rfl⟩ := h
    exact ⟨rfl, rfl⟩
  case h_24 | h_26 =>
    obtain ⟨_, _, rfl, rfl⟩ := h
    exact ⟨rfl, rfl⟩
  case h_28 | h_29 =>
    obtain ⟨_, _, rfl, rfl⟩ := h
    simp [requestBytes, requestPort, bytes16_word]
  case h_2 | h_3 | h_16 | h_17 | h_21 | h_22 | h_25 | h_27 =>
    obtain ⟨_, rfl, rfl⟩ := h
    exact ⟨rfl, rfl⟩
  all_goals
    obtain ⟨rfl, rfl⟩ := h
    exact ⟨rfl, rfl⟩

/-- Every code with as many bytes as the catalogue gives it spells a request. -/
theorem requestOf_isSome {p : Port} {t : Time} {code : Byte} {params : List Byte}
    (h : catalogueCount code = some params.length) : (requestOf p t code params).isSome = true := by
  have h0 {i : Instr} (hl : 0 = params.length) : (take0 i params).isSome = true := by
    rw [List.eq_nil_of_length_eq_zero hl.symm]
    rfl
  have h1 {f : Byte → Instr} (hl : 1 = params.length) : (take1 f params).isSome = true := by
    obtain ⟨a, rfl⟩ := List.length_eq_one_iff.1 hl.symm
    rfl
  have h2 {f : Byte → Byte → Instr} (hl : 2 = params.length) : (take2 f params).isSome = true := by
    obtain ⟨a, b, rfl⟩ := List.length_eq_two.1 hl.symm
    rfl
  have h3 {f : Byte → Byte → Byte → Instr} (hl : 3 = params.length) : (take3 f params).isSome = true := by
    obtain ⟨a, b, c, rfl⟩ := List.length_eq_three.1 hl.symm
    rfl
  have h5 {f : Byte → Byte → Byte → Byte → Byte → Instr} (hl : 5 = params.length) : (take5 f params).isSome = true := by
    match params, hl with
    | [a, b, c, d, e], _ => rfl
  have h7 {f : Byte → Byte → Byte → Byte → Byte → Byte → Byte → Instr} (hl : 7 = params.length) :
      (take7 f params).isSome = true := by
    match params, hl with
    | [a, b, c, d, e, g, h], _ => rfl
  have h12 {f : BitVec 16 → BitVec 16 → BitVec 16 → BitVec 16 → BitVec 16 → BitVec 16 → Instr}
      (hl : 12 = params.length) : (takeWords6 f params).isSome = true := by
    match params, hl with
    | [a1, a0, b1, b0, c1, c0, d1, d0, e1, e0, g1, g0], _ => rfl
  unfold catalogueCount at h
  split at h
  case h_31 => cases h
  all_goals
    rename_i hc
    simp only [requestOf, hc]
    simp only [Option.some.injEq] at h
    first
      | exact h0 h
      | exact h1 h
      | exact h2 h
      | exact h3 h
      | exact h5 h
      | exact h7 h
      | exact h12 h

/-- The count byte holds the count of each request of the catalogue. -/
theorem catalogueCount_lt {code : Byte} {n : Nat} (h : catalogueCount code = some n) : n < 256 := by
  unfold catalogueCount at h
  split at h <;> cases h <;> decide

/-- Settles O9: the two directions of the coding, the catalogue's counts, and the stream of a window bit by bit. -/
theorem requestCodingRoundTrips : Obligations.RequestCodingRoundTrips := by
  refine ⟨fun i code params d h => requestOf_requestBytes d h, fun p t code params i h => requestBytes_requestOf h,
    fun p t code params h => requestOf_isSome h, fun i stream after p d hstream hport => ?stream⟩
  case stream =>
    obtain ⟨⟨code, params⟩, hbytes, rfl⟩ := Option.map_eq_some_iff.1 hstream
    obtain ⟨q, hq, hrequest, hcount⟩ := requestOf_requestBytes d hbytes
    obtain rfl : p = q := Option.some.inj (hport.symm.trans hq)
    have hlen : params.length = (BitVec.ofNat 8 params.length).toNat := by
      rw [BitVec.toNat_ofNat, Nat.mod_eq_of_lt (catalogueCount_lt hcount)]
    refine ⟨?_, fun k hk => ?_⟩
    · rw [bytesOfBits_flatMap]
      simp only [windowRequest, List.cons_append, splitRequest_append hlen, Option.map_some, hrequest, Option.getD_some]
    · refine congrArg (Option.map _) (?_ : splitRequest _ = none)
      match k with
      | 0 => rfl
      | 1 => rfl
      | k + 2 =>
        refine splitRequest_short (hlen ▸ ?_)
        simp only [List.length_cons] at hk
        rw [List.length_take]
        omega

end Sys2Proof.Machine


/-! PROOFS. The reads (section 10.4): each answers its owner's fields, in the order of the rule that lists them. -/

namespace Sys2Proof.Machine

/-! ### What a read answers -/

/-- A request that its port takes and its judge answers with a code of its own and fields. -/
theorem State.request_of_answer {s t : State} {p : Port} {r : Result} {fields : List Byte} {judge : State → State × Answer}
    (h : s.takesRequest p = true) (hj : judge s = (t, u1 r.code ++ fields)) :
    s.request p judge = t.answering p r fields := by
  rw [State.request_of_taken judge h, hj]
  rfl

/-- A read that its port takes changes nothing but the answer. -/
theorem State.read_of_taken {s : State} {p : Port} {fields : State → List Byte} {answer : List Byte}
    (h : s.takesRequest p = true) (hf : fields s = answer) : s.read p fields = s.answering p .ok answer :=
  State.request_of_okay h (congrArg (fun a => (s, okay a)) hf)

/-! ### The codes of a read (R168) -/

theorem RunState.code_eq (r : RunState) : r.code = if r = .off then 0 else 1 := by
  cases r <;> rfl

theorem sourceCode_eq (source : Option Phase) :
    sourceCode source = match source with
      | some ph => phaseCode ph - 1
      | none => 3 := by
  rcases source with _ | (_ | _ | _) <;> rfl

theorem LastFault.fields_eq (f : LastFault) :
    f.fields = (match f.cause with
      | .period => [0]
      | .spacing => [1]
      | .reversed => [2]
      | .loss ph => [3, byteOf (phaseCode ph)]) ++ word4 f.round ++ word4 f.time := by
  obtain ⟨_ | _ | _ | _, round, time⟩ := f <;> rfl

theorem Policy.fields_eq (q : Policy) :
    q.fields = u2 q.roundPeriod ++ u1 q.movesPerRound ++ u4 q.gainMin ++ u4 q.costUnit
      ++ ((List.range 8).flatMap fun k => u1 (q.weights.getD k 0))
      ++ u1 q.dwell ++ u1 q.opsLimit ++ u2 q.windowLength ++ u1 q.staleness ++ u1 q.queueWait ++ u1 q.deadTime
      ++ u2 q.headTolerance ++ u1 q.headAge := rfl

theorem SlotStage.fields_eq (stage : SlotStage) :
    stage.fields = match stage with
      | .idle => [0, 0]
      | .waiting n => [1, 1, byteOf n]
      | .inProgress n => [2, 1, byteOf n] := by
  cases stage <;> rfl

theorem QueryResult.fields_eq (result : Option QueryResult) :
    optField QueryResult.fields result = match result with
      | none => [0]
      | some (.good n a r round) =>
        [1, 0, byteOf n, byteOf a, byteOf (phaseCode0 r.phase)] ++ i2 r.value.x ++ i2 r.value.y ++ yesNo r.lockout
          ++ yesNo r.fault ++ [r.tag] ++ word4 round
      | some (.failed n a k round) => [1, 1, byteOf n, byteOf a, byteOf k.code] ++ word4 round
      | some (.absent n round) => [1, 2, byteOf n] ++ word4 round := by
  rcases result with _ | (_ | _ | _) <;> rfl

theorem Summary.fields_eq (r : Summary) :
    r.fields = word4 r.round ++ u1 r.outcome.code ++ u6 r.score ++ u2 r.examined ++ u1 r.posted ++ u1 r.withdrawn
      ++ yesNo r.headStale ++ optField u4 (r.residuals.map (·.l1)) ++ optField u4 (r.residuals.map (·.l2))
      ++ optField u4 (r.residuals.map (·.l3)) := by
  obtain ⟨round, outcome, score, examined, posted, withdrawn, headStale, _ | residuals⟩ := r <;> rfl

/-! ### The counts of READ STATUS (R171) -/

/-- The present records without their numbers are the records that stand. -/
theorem State.present_map_snd (s : State) : s.present.map Prod.snd = s.consumers.filterMap id := by
  have hzip : s.consumers = s.consumers.zipIdx.map Prod.fst := (List.zipIdx_map_fst 0 s.consumers).symm
  rw [State.present, List.map_filterMap]
  conv_rhs => rw [hzip, List.filterMap_map]
  refine List.filterMap_congr fun x _ => ?_
  obtain ⟨_ | c, n⟩ := x <;> rfl

theorem State.present_length (s : State) : s.present.length = (s.consumers.filterMap id).length := by
  rw [← s.present_map_snd, List.length_map]

theorem State.countIn_eq (s : State) (st : PhaseState) :
    s.countIn st = (s.consumers.filterMap id).countP fun c => c.phaseState == st := by
  rw [← s.present_map_snd, List.countP_map, State.countIn, ← List.countP_eq_length_filter]
  rfl

theorem State.statusFields_eq (s : State) (p : Port) :
    s.statusFields p =
      u1 (if s.engine.run = .off then 0 else 1) ++ word4 s.engine.round ++ yesNo s.policy.armed ++ u1 s.segs.count
        ++ u1 s.mtu.mains.code ++ u1 s.fbc.link.code ++ yesNo s.fbc.enabled ++ u2 s.fbc.rate.hundreds
        ++ u2 s.fbc.contentions ++ optField word4 s.fbc.lastContention ++ u1 s.queue.records.length
        ++ u1 (s.consumers.filterMap id).length
        ++ u1 ((s.consumers.filterMap id).countP fun c => c.phaseState == .unknown)
        ++ u1 ((s.consumers.filterMap id).countP fun c => c.phaseState == .uncertain)
        ++ u2 (s.ports.get p).flags.toNat ++ u2 (s.ports.get p).mask.toNat := by
  rw [State.statusFields, RunState.code_eq, State.present_length, State.countIn_eq, State.countIn_eq]

theorem Mtu.fields_eq (m : Mtu) :
    m.fields =
      u1 m.mains.code ++ u1 m.good
        ++ (phases.flatMap fun ph => u1 (if m.phasePresent ph then 0 else 1) ++ optField word4 (m.stamps.get ph))
        ++ optField (fun f : LastFault =>
            (match f.cause with
              | .period => [0]
              | .spacing => [1]
              | .reversed => [2]
              | .loss ph => [3, byteOf (phaseCode ph)]) ++ word4 f.round ++ word4 f.time) m.lastFault
        ++ optField (fun f : Figures => u2 f.period ++ u2 f.d2 ++ u2 f.d3 ++ u2 f.frequency ++ word4 f.round) m.figures
        ++ u1 (match m.source with
            | some ph => phaseCode ph - 1
            | none => 3)
        ++ u1 m.settings.frequency ++ u2 m.settings.band ++ u2 m.settings.tol
        ++ u1 m.settings.settle ++ u1 m.settings.qualify := by
  have hphases : presenceFields m.stamps.l1 ++ presenceFields m.stamps.l2 ++ presenceFields m.stamps.l3 =
      phases.flatMap fun ph => u1 (if m.phasePresent ph then 0 else 1) ++ optField word4 (m.stamps.get ph) := by
    simp [phases, presenceFields, Mtu.phasePresent, PerPhase.get] <;> rfl
  have hfault : LastFault.fields = fun f : LastFault =>
      (match f.cause with
        | .period => [0]
        | .spacing => [1]
        | .reversed => [2]
        | .loss ph => [3, byteOf (phaseCode ph)]) ++ word4 f.round ++ word4 f.time := funext LastFault.fields_eq
  rw [Mtu.fields, hphases, hfault, sourceCode_eq]
  simp only [MainsSettings.fields, List.append_assoc] <;> rfl

/-- Settles O10: each answer is its owner's fields written out. -/
theorem readsAnswerTheirOwnersFields : Obligations.ReadsAnswerTheirOwnersFields := by
  unfold Obligations.ReadsAnswerTheirOwnersFields
  intro s p h
  refine ⟨congrArg Host.Outcome.next (State.read_of_taken h (s.statusFields_eq p)),
    congrArg Host.Outcome.next (State.read_of_taken h ?_),
    congrArg Host.Outcome.next (State.read_of_taken h rfl),
    congrArg Host.Outcome.next (State.read_of_taken h s.mtu.fields_eq),
    congrArg Host.Outcome.next (State.read_of_taken h ?_),
    congrArg Host.Outcome.next (State.read_of_taken h ?_)⟩
  · cases hsum : s.engine.summary with
    | none => rfl
    | some r => exact congrArg (List.cons 1) r.fields_eq
  · rw [Policy.fields_eq, Policy.fields_eq]
  · rw [SlotStage.fields_eq, QueryResult.fields_eq] <;> rfl

/-! ### READ CONSUMER (R172) -/

theorem holdFields_eq (hold : Option Hold) :
    holdFields hold = match hold with
      | none => [0]
      | some .indefinite => [1]
      | some (.until r) => 2 :: word4 r := by
  rcases hold with _ | _ | _ <;> rfl

theorem Consumer.fields_eq (c : Consumer) :
    c.fields =
      u1 c.address ++ u1 c.segment
        ++ u1 ((if c.allowed.l1 then 1 else 0) + (if c.allowed.l2 then 2 else 0) + (if c.allowed.l3 then 4 else 0))
        ++ u1 c.cost ++ u1 (phaseCode0 c.recorded) ++ u1 c.phaseState.code
        ++ optField (fun r : Reading => i2 r.value.x ++ i2 r.value.y ++ word4 r.round) c.reading
        ++ i2 c.frozen.x ++ i2 c.frozen.y ++ yesNo c.lockout ++ yesNo c.fault ++ u1 c.ops
        ++ optField word4 c.lastMove
        ++ (match c.hold with
          | none => [0]
          | some .indefinite => [1]
          | some (.until r) => 2 :: word4 r)
        ++ u1 c.health ++ u1 (if c.recheck then 0 else 1) ++ u1 (if c.tried then 0 else 1) := by
  have hreading : Reading.fields = fun r : Reading => i2 r.value.x ++ i2 r.value.y ++ word4 r.round := rfl
  simp only [Consumer.fields, phaseSetCode, phasor2, hreading, holdFields_eq, List.append_assoc] <;> rfl

theorem healthLevel_code (score : Nat) :
    (healthLevel score).code = if score ≤ 39 then 0 else if score ≤ 119 then 1 else 2 := by
  unfold healthLevel
  split_ifs <;> rfl

/-- A segment is frozen where a freeze stands at it or nearer the head (R30). -/
theorem State.isFrozen_eq (s : State) (segment : Nat) :
    s.isFrozen segment = (s.segs.segments.take (segment + 1)).any fun r => r.frozenAt.isSome := by
  rw [State.isFrozen, frozenAt, SegTable.frozenSet, ← List.map_take, List.any_map]
  rfl

/-- Settles O11. -/
theorem readConsumerAnswersTheRecord : Obligations.ReadConsumerAnswersTheRecord := by
  unfold Obligations.ReadConsumerAnswersTheRecord
  refine fun s p n h => ⟨fun hn => ?_, fun hn hc => ?_, fun c hn hc => ?_⟩
  · exact congrArg Host.Outcome.next (State.request_of_refused h (if_pos hn))
  · exact congrArg Host.Outcome.next (State.request_of_refused h (by simp [Config.consumers, hn, hc]))
  · refine congrArg Host.Outcome.next (State.request_of_okay h ?_)
    have hrange : ¬ Config.consumers ≤ n.toNat := Nat.not_le.2 hn
    simp only [hrange, if_false, hc, c.fields_eq, healthLevel_code, State.isFrozen_eq] <;> rfl

/-! ### READ SEGMENT (R27, R34) -/

/-- Settles O12. -/
theorem readSegmentAnswersTheSegment : Obligations.ReadSegmentAnswersTheSegment := by
  unfold Obligations.ReadSegmentAnswersTheSegment
  refine fun s p k h => ⟨fun hk => ?_, fun r hk hr => ?_⟩
  · exact congrArg Host.Outcome.next (State.request_of_refused h (if_pos hk))
  · refine congrArg Host.Outcome.next (State.request_of_okay h ?_)
    have hrange : ¬ Config.segments ≤ k.toNat := Nat.not_le.2 hk
    simp only [hrange, if_false, State.segment_of_getElem? hr]
    rfl

/-! ### READ JOURNAL (R163) -/

/-- A sound journal holds the entry of every number from a port's cursor to the next number (R159, R162). -/
theorem Journal.exists_at_cursor {j : Journal} {p : Port} (hj : j.wf) (hp : j.cursors.get p ≠ j.next) :
    ∃ e ∈ j.ring, e.seq = j.cursors.get p := by
  obtain ⟨hlen, hseq, hunread⟩ := j.wf_iff.1 hj
  have hback := hunread p
  have hsome : 0 < j.unread p := by
    simp only [Journal.unread]
    bv_omega
  refine ⟨j.ring[j.ring.length - j.unread p], List.getElem_mem _, ?_⟩
  rw [hseq, Nat.sub_sub_self hback]
  simp only [Journal.unread] at hback ⊢
  bv_omega

/-- The entry that a port reads next. -/
theorem State.nextUnread_of_unread {s : State} {p : Port} (hj : s.journal.wf)
    (hp : s.journal.cursors.get p ≠ s.journal.next) :
    ∃ e ∈ s.journal.ring, e.seq = s.journal.cursors.get p ∧ s.nextUnread p = some e := by
  obtain ⟨e, he, hseq⟩ := Journal.exists_at_cursor hj hp
  have hfound : (s.journal.ring.find? (·.seq == s.journal.cursors.get p)).isSome :=
    List.find?_isSome.2 ⟨e, he, by simpa using hseq⟩
  obtain ⟨d, hd⟩ := Option.isSome_iff_exists.1 hfound
  have hdseq := List.find?_some hd
  exact ⟨d, List.mem_of_find?_eq_some hd, by simpa using hdseq, by rw [State.nextUnread, if_neg hp, hd]⟩

theorem Entry.fields_eq (e : Entry) :
    e.fields =
      word2 e.seq
        ++ u1 (match e.kind with
          | .moveEnd _ _ _ _ => 0
          | .observed _ => 1)
        ++ u1 e.consumer ++ u1 (phaseCode0 e.phaseBefore) ++ u1 (phaseCode e.phaseAfter) ++ word4 e.round
        ++ (match e.kind with
          | .moveEnd id origin outcome verdict =>
            word2 id ++ u1 origin.code ++ u1 outcome.code ++ (match verdict with
              | some v => u1 v.code
              | none => [])
          | .observed cause => u1 cause.code) := by
  unfold Entry.fields
  cases e.kind <;> rfl

/-- Settles O13. -/
theorem readJournalAnswersTheEntryAtTheCursor : Obligations.ReadJournalAnswersTheEntryAtTheCursor := by
  unfold Obligations.ReadJournalAnswersTheEntryAtTheCursor
  refine fun s p h => ⟨fun hp => ?_, fun hp hj => ?_⟩
  · have hnone : s.nextUnread p = none := if_pos hp
    exact congrArg Host.Outcome.next (State.request_of_answer h (by rw [hnone]))
  · obtain ⟨e, he, hseq, hnext⟩ := State.nextUnread_of_unread hj hp
    refine ⟨e, he, hseq, congrArg Host.Outcome.next (State.request_of_okay h ?_)⟩
    rw [hnext]
    simp only [Entry.fields_eq, Journal.unread] <;> rfl

end Sys2Proof.Machine


/-! PROOFS. The requests on the run state, the segments, the consumers and the queue: the checks of each in its order,
then its effect (sections 1.5, 1.6, 2.1 to 2.4, 4.1 and 5.2). -/

namespace Sys2Proof.Machine

/-! ### STOP (R60) -/

/-- Settles O20. -/
theorem stopCancelsTheEnginesMoves : Obligations.StopCancelsTheEnginesMoves := by
  unfold Obligations.StopCancelsTheEnginesMoves
  refine fun s p h hp => ⟨fun hrun => ?_, fun hrun => ?_⟩ <;>
    exact congrArg Host.Outcome.next (State.request_of_okay h (by simp [hp, hrun]))

/-! ### Segments and freezes (R24, R25, R28, R29) -/

theorem mayInstall_iff (p : Port) : mayInstall p = true ↔ p ≠ .b := by
  simp [mayInstall]

/-- A segment of c or more is in use where a present record or a freeze stands on it (R24). -/
theorem State.segmentInUse_iff (s : State) (c : Nat) :
    s.segmentInUse c = true ↔
      (∃ r ∈ s.consumers.filterMap id, c ≤ r.segment) ∨ ∃ r ∈ s.segs.segments.drop c, r.frozenAt ≠ none := by
  rw [State.segmentInUse, Bool.or_eq_true, ← State.present_map_snd, SegTable.frozenSet, ← List.map_drop, List.any_map]
  simp only [List.mem_map, exists_exists_and_eq_and, List.any_eq_true, decide_eq_true_eq, Function.comp_apply, id_eq, ne_eq,
    Option.isSome_iff_ne_none]

theorem u1_toNat (c : Byte) : u1 c.toNat = [c] := by
  simp [u1, byteOf]

theorem execSetSegmentCount_range {s : State} {p : Port} {c : Byte} (h : s.takesRequest p = true) (hp : p ≠ .b)
    (hc : c.toNat = 0 ∨ 8 < c.toNat) : execSetSegmentCount p c s = .next (s.answering p .range []) :=
  congrArg Host.Outcome.next (State.request_of_refused h (by simp [(mayInstall_iff p).2 hp, Config.segments, hc]))

theorem execSetSegmentCount_state {s : State} {p : Port} {c : Byte} (h : s.takesRequest p = true) (hp : p ≠ .b)
    (hc : ¬(c.toNat = 0 ∨ 8 < c.toNat)) (hrun : s.engine.run = .auto) :
    execSetSegmentCount p c s = .next (s.answering p .state []) :=
  congrArg Host.Outcome.next (State.request_of_refused h
    (by simp [(mayInstall_iff p).2 hp, Config.segments, hc, hrun]))

theorem execSetSegmentCount_conflict {s : State} {p : Port} {c : Byte} (h : s.takesRequest p = true) (hp : p ≠ .b)
    (hc : ¬(c.toNat = 0 ∨ 8 < c.toNat)) (hrun : s.engine.run = .off) (hused : s.segmentInUse c.toNat = true) :
    execSetSegmentCount p c s = .next (s.answering p .conflict []) :=
  congrArg Host.Outcome.next (State.request_of_refused h
    (by simp [(mayInstall_iff p).2 hp, Config.segments, hc, hrun, hused]))

theorem execSetSegmentCount_stored {s : State} {p : Port} {c : Byte} (h : s.takesRequest p = true) (hp : p ≠ .b)
    (hc : ¬(c.toNat = 0 ∨ 8 < c.toNat)) (hrun : s.engine.run = .off) (hused : s.segmentInUse c.toNat = false) :
    execSetSegmentCount p c s =
      .next ({ s with segs := { s.segs with count := c.toNat } }.answering p .ok [c]) :=
  congrArg Host.Outcome.next (State.request_of_okay h
    (by simp [(mayInstall_iff p).2 hp, Config.segments, hc, hrun, hused, u1_toNat]))

theorem execInstallSegment_stored {s : State} {p : Port} {k : Byte} {r : Segment} (limit : BitVec 16)
    (h : s.takesRequest p = true) (hp : p ≠ .b) (hk : k.toNat < 8) (hrun : s.engine.run = .off)
    (hr : s.segs.segments[k.toNat]? = some r) :
    execInstallSegment p k limit s =
      .next ((s.putSegment k.toNat { r with limit := max 10 (min 1000 limit.toNat) }).answering p .ok
        (u2 (max 10 (min 1000 limit.toNat)))) := by
  have hrange : ¬ Config.segments ≤ k.toNat := Nat.not_le.2 hk
  exact congrArg Host.Outcome.next (State.request_of_okay h
    (by simp [(mayInstall_iff p).2 hp, hrange, hrun, State.segment_of_getElem? hr,
      clampNat_eq (show 10 ≤ 1000 by decide)]))

/-- Settles O21, answer by answer in the order of the checks of R24 and R25. -/
theorem segmentsAreInstalledInRange : Obligations.SegmentsAreInstalledInRange := by
  unfold Obligations.SegmentsAreInstalledInRange
  intro s p c k limit h hp used
  have hused : s.segmentInUse c.toNat = true ↔ used := s.segmentInUse_iff c.toNat
  refine ⟨fun hc => execSetSegmentCount_range h hp (by omega), fun h1 h8 => ?_, fun h1 h8 hrun hu => ?_, fun h1 h8 hrun hu => ?_, fun hk => ?_,
    fun hk hrun => ?_, fun r hk hrun hr => execInstallSegment_stored limit h hp hk hrun hr⟩
  · exact execSetSegmentCount_state h hp (by omega)
  · exact execSetSegmentCount_conflict h hp (by omega) hrun (hused.2 hu)
  · exact execSetSegmentCount_stored h hp (by omega) hrun (Bool.eq_false_iff.2 fun ht => hu (hused.1 ht))
  · exact congrArg Host.Outcome.next (State.request_of_refused h
      (by simp [(mayInstall_iff p).2 hp, Config.segments, hk]))
  · have hrange : ¬ Config.segments ≤ k.toNat := Nat.not_le.2 hk
    exact congrArg Host.Outcome.next (State.request_of_refused h (by simp [(mayInstall_iff p).2 hp, hrange, hrun]))

/-- Settles O22: the freeze is placed, then the moves at the segment or beyond it are cancelled. -/
theorem freezeCancelsTheMovesBeyondIt : Obligations.FreezeCancelsTheMovesBeyondIt := by
  unfold Obligations.FreezeCancelsTheMovesBeyondIt
  refine fun s k h => ⟨fun hk => ?_, fun r hk hr => ?_⟩
  · exact congrArg Host.Outcome.next (State.request_of_refused h (by simp [hk]))
  · refine congrArg Host.Outcome.next (State.request_of_okay h ?_)
    simp only [ne_eq, not_true_eq_false, if_false, Nat.not_le.2 hk, State.placedRound, State.segment_of_getElem? hr]
    rfl

/-! ### HEAD REPORT (R32) -/

theorem headComponent_eq (v : BitVec 16) : headComponent v = max (-20000) (min 20000 v.toInt) := by
  unfold headComponent clampInt
  split
  · omega
  · split <;> omega

/-- Settles O24. -/
theorem headReportIsClampedAndStamped : Obligations.HeadReportIsClampedAndStamped := by
  unfold Obligations.HeadReportIsClampedAndStamped
  intro s x1 y1 x2 y2 x3 y3 h
  exact congrArg Host.Outcome.next (State.request_of_okay h (by simp only [ne_eq, not_true_eq_false, if_false, headComponent_eq]))

/-! ### INSTALL CONSUMER (R20) -/

theorem State.named_iff {s : State} {n : Nat} : s.named n = true ↔ ∃ r ∈ s.queue.records, r.consumer = n := by
  simp [State.named]

theorem State.addressTaken_iff {s : State} {n address : Nat} :
    s.addressTaken n address = true ↔ ∃ m c, s.consumer? m = some c ∧ m ≠ n ∧ c.address = address := by
  simp [State.addressTaken, State.mem_present]

/-- Settles O25, answer by answer in the order of R20's checks. -/
theorem installConsumerMakesAFreshRecord : Obligations.InstallConsumerMakesAFreshRecord := by
  unfold Obligations.InstallConsumerMakesAFreshRecord
  intro s p n address segment allowed cost h hp ranged moving taken known mark link reply
  have hinstall := (mayInstall_iff p).2 hp
  have hranged : s.installInRange n.toNat address.toNat segment.toNat allowed.toNat cost.toNat = decide ranged := by
    simp [State.installInRange, ranged, Config.consumers, and_assoc]
  have hmoving : s.named n.toNat = decide moving := by
    rw [Bool.eq_iff_iff, State.named_iff, decide_eq_true_iff]
  have htaken : s.addressTaken n.toNat address.toNat = true ↔ taken := State.addressTaken_iff
  refine ⟨fun hr => ?_, fun hr hrun => ?_, fun hr hrun hm => ?_, fun hr hrun hm ht => ?_, fun hr hrun hm ht => ?_⟩
  · exact congrArg Host.Outcome.next (State.request_of_refused h (by simp [hinstall, hranged, hr]))
  · exact congrArg Host.Outcome.next (State.request_of_refused h (by simp [hinstall, hranged, hr, hrun]))
  · exact congrArg Host.Outcome.next (State.request_of_refused h (by simp [hinstall, hranged, hr, hrun, hmoving, hm]))
  · exact congrArg Host.Outcome.next (State.request_of_refused h
      (by simp [hinstall, hranged, hr, hrun, hmoving, hm, htaken.2 ht]))
  · have hfree : s.addressTaken n.toNat address.toNat = false := Bool.eq_false_iff.2 fun hd => ht (htaken.1 hd)
    have hinstalled : reply = .next (((s.putConsumer n.toNat (some (Consumer.installed address.toNat segment.toNat
        (phaseSetOf allowed) cost.toNat))).markReplaced n.toNat).answering p .ok []) :=
      congrArg Host.Outcome.next (State.request_of_okay h (by simp [hinstall, hranged, hr, hrun, hmoving, hm, hfree]))
    exact hinstalled

/-! ### REMOVE CONSUMER (R21, R152) -/

/-- A port's WAITING query for consumer n. -/
def State.waitsFor (s : State) (n : Nat) (p : Port) : Bool := (s.arb.slots.get p).stage == .waiting n

/-- What a removal leaves of the port's slot, of the port and of the arrival order (R152). -/
theorem State.dropWaiting_eq (s : State) (n : Nat) (p : Port) :
    s.dropWaiting n p =
      { s with
        arb := { s.arb with
          slots := s.arb.slots.set p
            (if s.waitsFor n p then ⟨.idle, some (.absent n s.engine.round)⟩ else s.arb.slots.get p)
          order := s.arb.order.filter fun q => !(s.waitsFor n p && decide (q = p)) }
        ports := s.ports.set p (if s.waitsFor n p then (s.ports.get p).raise .query else s.ports.get p) } := by
  have hset {α : Type} (v : PerPort α) : v.set p (v.get p) = v := PerPort.ext_get fun q => by
    rw [PerPort.get_set]
    split <;> simp_all
  by_cases hw : (s.arb.slots.get p).stage = .waiting n
  · simp [State.dropWaiting, State.waitsFor, hw, State.completeQuery, State.putSlot, State.raise, bne, beq_eq_decide]
  · have hwaits : s.waitsFor n p = false := by simpa [State.waitsFor] using hw
    simp [State.dropWaiting, hw, hwaits, hset]

/-- What a removal leaves: the record absent, and the WAITING queries for it completed (R21, R152). -/
theorem State.remove_eq (s : State) (n : Nat) :
    s.remove n =
      { (s.putConsumer n none).markReplaced n with
        arb := { s.arb with
          slots := ⟨if s.waitsFor n .a then ⟨.idle, some (.absent n s.engine.round)⟩ else s.arb.slots.get .a,
            if s.waitsFor n .b then ⟨.idle, some (.absent n s.engine.round)⟩ else s.arb.slots.get .b,
            if s.waitsFor n .c then ⟨.idle, some (.absent n s.engine.round)⟩ else s.arb.slots.get .c⟩
          order := s.arb.order.filter fun q => !s.waitsFor n q }
        ports := ⟨if s.waitsFor n .a then (s.ports.get .a).raise .query else s.ports.get .a,
          if s.waitsFor n .b then (s.ports.get .b).raise .query else s.ports.get .b,
          if s.waitsFor n .c then (s.ports.get .c).raise .query else s.ports.get .c⟩ } := by
  have horder : (s.arb.order.filter fun q => !s.waitsFor n q) =
      ((s.arb.order.filter fun q => !(s.waitsFor n .a && decide (q = .a))).filter fun q => !(s.waitsFor n .b && decide (q = .b))).filter
        fun q => !(s.waitsFor n .c && decide (q = .c)) := by
    rw [List.filter_filter, List.filter_filter]
    refine List.filter_congr fun q _ => ?_
    cases q <;> simp
  rw [horder]
  simp only [State.remove, List.foldl_cons, List.foldl_nil, State.dropWaiting_eq]
  rfl

/-- Settles O26, answer by answer in the order of R21's checks. -/
theorem removeConsumerMakesTheRecordAbsent : Obligations.RemoveConsumerMakesTheRecordAbsent := by
  unfold Obligations.RemoveConsumerMakesTheRecordAbsent
  intro s p n h hp moving known mark link reply
  have hinstall := (mayInstall_iff p).2 hp
  have hmoving : s.named n.toNat = decide moving := by
    rw [Bool.eq_iff_iff, State.named_iff, decide_eq_true_iff]
  refine ⟨fun hn => ?_, fun hn hrun => ?_, fun hn hrun hc => ?_, fun c hn hrun hc hm => ?_, fun c hn hrun hc hm => ?_⟩
  · exact congrArg Host.Outcome.next (State.request_of_refused h (by simp [hinstall, Config.consumers, hn]))
  · exact congrArg Host.Outcome.next (State.request_of_refused h (by simp [hinstall, Config.consumers, hn, hrun]))
  · exact congrArg Host.Outcome.next (State.request_of_refused h (by simp [hinstall, Config.consumers, hn, hrun, hc]))
  · exact congrArg Host.Outcome.next (State.request_of_refused h
      (by simp [hinstall, Config.consumers, hn, hrun, hc, hmoving, hm]))
  · have hremoved : execRemoveConsumer p n s = .next ((s.remove n.toNat).answering p .ok []) :=
      congrArg Host.Outcome.next (State.request_of_okay h
        (by simp [hinstall, Config.consumers, hn, hrun, hc, hmoving, hm]))
    refine hremoved.trans ?_
    rw [State.remove_eq]
    rfl

/-! ### HOLD (R16) -/

/-- Settles O27. -/
theorem holdIsPlacedAndCancelsMoves : Obligations.HoldIsPlacedAndCancelsMoves := by
  unfold Obligations.HoldIsPlacedAndCancelsMoves
  refine fun s n d h => ⟨fun hn => ?_, fun hn hc => ?_, fun c hn hc => ?_⟩
  · exact congrArg Host.Outcome.next (State.request_of_refused h (by simp [Config.consumers, hn]))
  · exact congrArg Host.Outcome.next (State.request_of_refused h (by simp [Config.consumers, hn, hc]))
  · have horigin : (fun r : MoveRecord => r.consumer == n.toNat && r.origin != .portC) =
        fun r => r.consumer == n.toNat && (r.origin == Origin.engine || r.origin == Origin.portA) := by
      funext r
      cases r.origin <;> rfl
    have hzero : d.toNat = 0 ↔ d = 0 := BitVec.toNat_eq (y := (0 : Byte)) |>.symm
    refine congrArg Host.Outcome.next (State.request_of_okay h ?_)
    have hrange : ¬ Config.consumers ≤ n.toNat := Nat.not_le.2 hn
    simp only [ne_eq, not_true_eq_false, if_false, hrange, hc, Option.isNone_some, Bool.false_eq_true, horigin, holdFor, hzero,
      State.updateConsumer_of_present hc]
    split <;> rfl

/-! ### REQUEST MOVE (R83) -/

theorem phaseOfCode_eq_none {q : Nat} : phaseOfCode q = none ↔ q = 0 ∨ 4 ≤ q := by
  unfold phaseOfCode
  split <;> simp_all <;> omega

theorem phaseOfCode_phaseCode (target : Phase) : phaseOfCode (phaseCode target) = some target := by
  cases target <;> rfl

theorem Consumer.ineligible_iff {c : Consumer} {q : Phase} :
    c.ineligible q = true ↔
      c.phaseState ≠ .confirmed ∨ c.allowed.get q = false ∨ c.recorded = some q ∨ 120 ≤ c.health := by
  have hsilent : healthLevel c.health = .silent ↔ 120 ≤ c.health := by
    unfold healthLevel
    split_ifs <;> simp <;> omega
  simp [Consumer.ineligible, hsilent, or_assoc]

/-- The request as far as it is judged on a present record and a phase (R83). -/
theorem execRequestMove_refused {s : State} {p : Port} {n q : Byte} {target : Phase} {c : Consumer} {r : Result}
    (h : s.takesRequest p = true) (hp : p ≠ .b) (hn : n.toNat < 96) (hq : q.toNat = phaseCode target)
    (hc : s.consumer? n.toNat = some c) (hr : s.moveRefusal p n.toNat c target = some r) :
    execRequestMove p n q s = .next (s.answering p r []) := by
  have hrange : ¬ Config.consumers ≤ n.toNat := Nat.not_le.2 hn
  refine congrArg Host.Outcome.next (State.request_of_refused h ?_)
  simp [hp, hrange, hq, phaseOfCode_phaseCode, hc, hr]

theorem execRequestMove_made {s : State} {p : Port} {n q : Byte} {target source : Phase} {c : Consumer}
    (h : s.takesRequest p = true) (hp : p ≠ .b) (hn : n.toNat < 96) (hq : q.toNat = phaseCode target)
    (hc : s.consumer? n.toNat = some c) (hsource : c.recorded = some source)
    (hr : s.moveRefusal p n.toNat c target = none) :
    execRequestMove p n q s =
      .next ((s.makeMove n.toNat source target (moveOrigin p) s.engine.round).answering p .ok (word2 s.queue.nextId)) := by
  have hrange : ¬ Config.consumers ≤ n.toNat := Nat.not_le.2 hn
  refine congrArg Host.Outcome.next (State.request_of_okay h ?_)
  simp [hp, hrange, hq, phaseOfCode_phaseCode, hc, hr, hsource]

/-- Settles O29, answer by answer in the order of R83's checks. -/
theorem requestMoveQueuesAManualMove : Obligations.RequestMoveQueuesAManualMove := by
  unfold Obligations.RequestMoveQueuesAManualMove
  intro s p n q h hp reply
  refine ⟨fun hout => ?_, fun target hn hq => ⟨fun hc => ?_, fun c hc => ?_⟩⟩
  · by_cases hn : Config.consumers ≤ n.toNat
    · exact congrArg Host.Outcome.next (State.request_of_refused h (by simp [hp, hn]))
    · have hphase : phaseOfCode q.toNat = none :=
        phaseOfCode_eq_none.2 (hout.resolve_left hn)
      exact congrArg Host.Outcome.next (State.request_of_refused h (by simp [hp, hn, hphase]))
  · have hrange : ¬ Config.consumers ≤ n.toNat := Nat.not_le.2 hn
    exact congrArg Host.Outcome.next (State.request_of_refused h
      (by simp [hp, hrange, hq, phaseOfCode_phaseCode, hc]))
  · classical
    intro unfit held frozen busy
    have hunfit : c.ineligible target = true ↔ unfit := Consumer.ineligible_iff
    have hheld : p = .a ∧ c.isHeld = true ↔ held := by
      simp [held, Consumer.isHeld, Option.isSome_iff_ne_none]
    have hfrozen : s.isFrozen c.segment = true ↔ frozen := s.isFrozen_iff c.segment
    have hbusy : s.named n.toNat = true ↔ busy := State.named_iff
    have hrefused (r : Result) (hr : s.moveRefusal p n.toNat c target = some r) : reply = .next (s.answering p r []) :=
      execRequestMove_refused h hp hn hq hc hr
    simp only [State.moveRefusal, hunfit, hheld, hfrozen, hbusy] at hrefused
    refine ⟨fun hu => hrefused _ (if_pos hu), fun hu hh => hrefused _ (by simp [hu, hh]),
      fun hu hh hf => hrefused _ (by simp [hu, hh, hf]), fun hu hh hf hb => hrefused _ (by simp [hu, hh, hf, hb]),
      fun hu hh hf hb hroom => hrefused _ (by simp [hu, hh, hf, hb, Config.queueRoom, hroom]),
      fun source hsource hu hh hf hb hroom => ?_⟩
    have hfull : ¬ Config.queueRoom ≤ s.queue.records.length := Nat.not_le.2 hroom
    exact execRequestMove_made h hp hn hq hc hsource
      (by simp [State.moveRefusal, hunfit, hheld, hfrozen, hbusy, hu, hh, hf, hb, hfull])

end Sys2Proof.Machine


/-! PROOFS. The order in which removals write the journal (sections 5.8 and 9.2), the latch's eight steps (section 4.3),
and the integer square root (section 3.3). -/

namespace Sys2Proof.Machine

/-! ### Journal writes (R160, R161) -/

/-- An entry is appended where the ring has room (R160). -/
theorem State.writeEntry_of_room {s : State} (h : s.journal.ring.length < 32) (n : Nat) (before : Option Phase) (after : Phase)
    (kind : EntryKind) : s.writeEntry n before after kind = s.append n before after kind := by
  rw [State.writeEntry_eq, if_neg (Nat.not_le.2 h)]

/-- The oldest entry is evicted from a full ring before the new one is appended (R161). -/
theorem State.writeEntry_of_full {s : State} (h : 32 ≤ s.journal.ring.length) (n : Nat) (before : Option Phase) (after : Phase)
    (kind : EntryKind) : s.writeEntry n before after kind = s.evict.append n before after kind := by
  rw [State.writeEntry_eq, if_pos h]

theorem State.evict_eq {s : State} {oldest : Entry} {rest : List Entry} (h : s.journal.ring = oldest :: rest) :
    s.evict =
      { s with
        journal :=
          { s.journal with
            ring := rest
            cursors := s.journal.cursors.map fun c => if c = oldest.seq then oldest.seq + 1 else c }
        ports :=
          ⟨if s.journal.cursors.get .a = oldest.seq then (s.ports.get .a).raise .gap else s.ports.get .a,
            if s.journal.cursors.get .b = oldest.seq then (s.ports.get .b).raise .gap else s.ports.get .b,
            if s.journal.cursors.get .c = oldest.seq then (s.ports.get .c).raise .gap else s.ports.get .c⟩ } := by
  simp only [State.evict, h, beq_iff_eq]
  rfl

/-! ### Removals (R87, R99) -/

/-- A journal write does not read the queue, so its records can be replaced before it or after it. -/
theorem State.writeRemoved_withRecords (s : State) (rs records : List MoveRecord) (o : Outcome) :
    (s.writeRemoved rs o).withRecords records = (s.withRecords records).writeRemoved rs o := by
  induction rs generalizing s with
  | nil => rfl
  | cons r rs ih =>
    have hhead : (s.writeMoveEnd r o none).withRecords records = (s.withRecords records).writeMoveEnd r o none := by
      have hqueue : (s.writeMoveEnd r o none).queue = s.queue := by simp [State.writeMoveEnd]
      have hcons : (s.writeMoveEnd r o none).consumers = s.consumers := by simp [State.writeMoveEnd]
      refine Eq.trans ?_ (State.writeEntry_with s s.consumers { s.queue with records := records } _ _ _ _).symm
      rw [State.withRecords, hqueue, ← hcons]
      rfl
    rw [State.writeRemoved_cons, State.writeRemoved_cons, ih, hhead]

/-- What one event's removals write: the batch in queue order, then each new head off its source (R87, R99). -/
theorem State.removeQueued_eq (s : State) (which : MoveRecord → Bool) (o : Outcome) :
    s.removeQueued which o =
      ((s.withRecords ((s.queue.records.filter fun r => !(r.state == .queued && which r)).dropWhile s.offSource)).writeRemoved
        (s.queue.records.filter fun r => r.state == .queued && which r) o).writeRemoved
          ((s.queue.records.filter fun r => !(r.state == .queued && which r)).takeWhile s.offSource) .cancelled := by
  have hsource (kept gone : List MoveRecord) : ((s.withRecords kept).writeRemoved gone o).offSource = s.offSource :=
    State.offSource_congr (by simp only [State.writeRemoved_frame]; rfl)
  rw [State.removeQueued, State.settleHead, hsource]
  simp only [State.writeRemoved_frame]
  rw [State.writeRemoved_withRecords]
  rfl

/-- Settles O33. -/
theorem removalsWriteTheJournalInOrder : Obligations.RemovalsWriteTheJournalInOrder := by
  unfold Obligations.RemovalsWriteTheJournalInOrder
  refine ⟨fun s n before after kind => ⟨fun hroom => ?_, fun oldest rest hring hfull => ?_⟩,
    fun s which o => ⟨s.removeQueued_eq which o, rfl, fun r => State.offSource_iff⟩⟩
  · exact State.writeEntry_of_room hroom ..
  · rw [State.writeEntry_of_full hfull, State.evict_eq hring]
    intro moved told
    have htold (p : Port) : (if s.journal.cursors.get p = oldest.seq then (s.ports.get p).raise .gap
        else s.ports.get p).raise .journal = told p := apply_ite (PortState.raise · .journal) ..
    rw [← htold, ← htold, ← htold]
    rfl

/-! ### The latch (R65) -/

theorem State.latchCommit_eq (s : State) :
    s.latchCommit = { s with policy := if s.policy.armed then ⟨s.policy.staged, s.policy.staged, false⟩ else s.policy } := by
  unfold State.latchCommit
  split <;> rfl

theorem State.latchWindow_eq (s : State) :
    s.latchWindow =
      { s with
        engine := { s.engine with
          window := if s.policy.active.windowLength ≤ s.engine.window + 1 then 0 else s.engine.window + 1 }
        consumers := s.consumers.map (Option.map fun c =>
          { c with ops := if s.policy.active.windowLength ≤ s.engine.window + 1 then 0 else c.ops }) } := by
  have hreached : s.windowReached = true ↔ s.policy.active.windowLength ≤ s.engine.window + 1 := decide_eq_true_iff
  unfold State.latchWindow
  split <;> rename_i h <;> rw [hreached] at h
  · simp only [h, if_true]
    rfl
  · have hid : (Option.map fun c : Consumer => { c with ops := c.ops }) = id := by
      funext x
      cases x <;> rfl
    simp only [h, if_false, hid, List.map_id]

theorem State.latchHolds_eq (s : State) :
    s.latchHolds =
      { s with
        consumers := s.consumers.map (Option.map fun c =>
          { c with hold := if c.hold = some (.until s.engine.round) then none else c.hold }) } := by
  have hhold : (fun c : Consumer => if c.holdExpires s.engine.round then { c with hold := none } else c) =
      fun c => { c with hold := if c.hold = some (.until s.engine.round) then none else c.hold } := by
    funext c
    by_cases h : c.hold = some (.until s.engine.round) <;> simp [Consumer.holdExpires, h]
  rw [State.latchHolds, hhold]
  rfl

/-- The working set's entries are the copies of the records that stand, in the order of their numbers (R67). -/
theorem State.workingSet_entries (s : State) :
    s.workingSet.entries = s.consumers.zipIdx.filterMap fun x => x.1.map fun c => workEntry x.2 c := by
  rw [State.workingSet, State.present, List.map_filterMap]
  refine List.filterMap_congr fun x _ => ?_
  obtain ⟨_ | c, n⟩ := x <;> rfl

/-- Settles O34: the eight steps one after another; the other three expiries are the same event. -/
theorem latchTakesItsEightStepsInOrder : Obligations.LatchTakesItsEightStepsInOrder := by
  unfold Obligations.LatchTakesItsEightStepsInOrder
  refine fun s hheld hdue => ⟨fun w hw => ?_, fun hfree => ?_⟩
  · exact congrArg Host.Outcome.next ((State.event_of_true _ hheld hdue).trans (State.takeExpiry_of_busy hw))
  · intro policy round ends waited counted swept consumers entry work latched
    have hcounted : ({ s with engine := { s.engine with expiryDue := false } } : State).latchCounted.latchHolds = counted := by
      rw [State.latchCounted, State.latchCommit_eq, State.latchHolds_eq, State.latchWindow_eq]
      simp only [State.latchRound, List.map_map, Option.map_comp_map]
      rfl
    have hwork : (swept.mapConsumers Consumer.latched).workingSet = work := by
      obtain ⟨-, -, -, -, hsegs, hpolicy, hengine, hmtu, -⟩ := counted.removeQueued_frame waited .expired
      have hentries : (swept.mapConsumers Consumer.latched).workingSet.entries = work.entries :=
        State.workingSet_entries _
      have hfields : (swept.mapConsumers Consumer.latched).workingSet =
          ⟨swept.engine.round, (swept.mapConsumers Consumer.latched).workingSet.entries, swept.segs.count,
            swept.segs.segments.map (·.limit), swept.segs.segments.map (·.frozenAt.isSome), swept.segs.head,
            swept.policy.active, swept.engine.run, swept.mtu.mains, swept.mtu.stamps.map (·.isSome),
            swept.queue.records.length, []⟩ := rfl
      rw [hfields, hentries, hsegs, hpolicy, hengine, hmtu]
    have hlatch : s.takeExpiry = latched := by
      rw [State.takeExpiry_of_free hfree, State.latch, hcounted]
      refine Eq.trans (b := { swept with
        consumers := consumers
        engine := { swept.engine with work := some (swept.mapConsumers Consumer.latched).workingSet } }) rfl ?_
      rw [hwork]
    have htaken (due : Bool) (h : due = true) : Host.Outcome.next (s.event due State.takeExpiry) = (.next latched : Step) :=
      congrArg Host.Outcome.next ((State.event_of_true _ hheld h).trans hlatch)
    have hlatchDue : s.latchDue = true := by simp [State.latchDue, hdue, hfree]
    refine ⟨htaken _ hdue, fun hends => htaken _ ?_, fun hhold => htaken _ ?_, fun hwaited => htaken _ ?_⟩
    · simpa [State.windowExpires, hlatchDue, State.latchCommit_eq, State.windowReached] using hends
    · obtain ⟨n, c, hc, hh⟩ := hhold
      simp only [State.holdExpires, hlatchDue, Bool.true_and, List.any_eq_true]
      exact ⟨(n, c), State.mem_present.2 hc, beq_iff_eq.2 hh⟩
    · obtain ⟨m, hm, hq, hw⟩ := hwaited
      simp only [State.recordExpires, hlatchDue, Bool.true_and, List.any_eq_true]
      refine ⟨m, hm, ?_⟩
      rw [State.latchCommit_eq]
      exact Bool.and_eq_true_iff.2 ⟨beq_iff_eq.2 hq, hw⟩

/-! ### The integer square root (R45) -/

/-- Bit by bit the root stays exact: it never exceeds the root of n, and with the bits still to be tried it does. -/
theorem isqrtFrom_eq_sqrt (n k r : Nat) (hlow : r * r ≤ n) (hhigh : n < (r + 2 ^ k) * (r + 2 ^ k)) :
    isqrtFrom n k r = Nat.sqrt n := by
  induction k generalizing r with
  | zero => exact Nat.eq_sqrt.2 ⟨hlow, hhigh⟩
  | succ k ih =>
    have hdouble : r + 2 ^ k + 2 ^ k = r + 2 ^ (k + 1) := by rw [pow_succ]; omega
    rw [isqrtFrom]
    split
    · next h => exact ih _ h (by rwa [hdouble])
    · next h => exact ih _ hlow (Nat.not_le.1 h)

theorem isqrt_eq_sqrt (n : Nat) : isqrt n = Nat.sqrt n := by
  refine isqrtFrom_eq_sqrt n _ 0 (Nat.zero_le n) ?_
  calc n < 2 ^ (n.log2 + 1) := Nat.lt_log2_self
    _ ≤ 2 ^ ((n.log2 / 2 + 1) + (n.log2 / 2 + 1)) := Nat.pow_le_pow_right (by decide) (by omega)
    _ = (0 + 2 ^ (n.log2 / 2 + 1)) * (0 + 2 ^ (n.log2 / 2 + 1)) := by rw [pow_add, Nat.zero_add]

theorem isqrt_eq_iff (n r : Nat) : isqrt n = r ↔ r * r ≤ n ∧ n < (r + 1) * (r + 1) := by
  rw [isqrt_eq_sqrt, eq_comm, Nat.eq_sqrt]

theorem isqrt_le {n r : Nat} (h : n < (r + 1) * (r + 1)) : isqrt n ≤ r := by
  rw [isqrt_eq_sqrt]
  exact Nat.lt_succ_iff.1 (Nat.sqrt_lt.2 h)

/-- The squared magnitude of a phasor whose components are bounded. -/
theorem Phasor.normSq_le {v : Phasor} {b : Int} (hx : -b ≤ v.x ∧ v.x ≤ b) (hy : -b ≤ v.y ∧ v.y ≤ b) :
    v.normSq ≤ 2 * (b * b) := by
  have hx' := abs_le_iff_mul_self_le.1 ((abs_le.2 hx).trans (le_abs_self b))
  have hy' := abs_le_iff_mul_self_le.1 ((abs_le.2 hy).trans (le_abs_self b))
  unfold Phasor.normSq
  omega

/-- Settles O37: the root is Mathlib's, and the largest neutral sum has the largest estimate. -/
theorem squareRootsAreExact : Obligations.SquareRootsAreExact := by
  unfold Obligations.SquareRootsAreExact
  refine ⟨isqrt_eq_iff, fun v => ⟨rfl, rfl⟩, fun v hx hx' hy hy' => ?_, (isqrt_eq_iff _ _).2 (by decide)⟩
  have hsq : v.normSq ≤ 2 * (262272 * 262272) := Phasor.normSq_le ⟨hx, hx'⟩ ⟨hy, hy'⟩
  have hroot : isqrt v.normSq.toNat ≤ 370908 := isqrt_le (by omega)
  unfold neutralEstimate
  omega

end Sys2Proof.Machine


/-! PROOFS. The search (sections 3.4, 4.4 and 4.5): the gate, the eligible consumers, the candidates and their order, the
gain and the limits, the choice, and the searches of a round. -/

namespace Sys2Proof.Machine

/-! ### The gate (R69) -/

/-- The conditions under which a round searches (R69). -/
def WorkingSet.Open (w : WorkingSet) : Prop := w.run = .auto ∧ w.mains = .valid ∧ w.occupancy = 0 ∧ w.mismatch = false

theorem WorkingSet.gate_eq_none {w : WorkingSet} : w.gate = none ↔ w.Open := by
  have hrun : w.run = .auto ↔ ¬w.run = .off := by cases w.run <;> simp
  unfold WorkingSet.gate WorkingSet.Open
  rw [hrun]
  split_ifs <;> simp_all

theorem WorkingSet.selection_of_open {w : WorkingSet} (h : w.Open) :
    w.selection = w.searches w.policy.movesPerRound ⟨w.neutrals, w.sums⟩ [] := by
  rw [WorkingSet.selection, WorkingSet.gate_eq_none.2 h]
  rfl

theorem WorkingSet.selection_of_not_open {w : WorkingSet} (h : ¬w.Open) : w.selection = ([], 0) := by
  obtain ⟨o, ho⟩ := Option.ne_none_iff_exists'.1 fun hn => h (WorkingSet.gate_eq_none.1 hn)
  exact WorkingSet.selection_of_closed ho

/-! ### The searches of a round (R47, R53, R54, R71) -/

theorem WorkingSet.searches_of_none {w : WorkingSet} {left : Nat} {ws : WorkSums} {chosen : List Nat}
    (h : w.choose ws (w.candidates chosen) = none) :
    w.searches (left + 1) ws chosen = ([], (w.candidates chosen).length) := by
  simp only [WorkingSet.searches, h]

theorem WorkingSet.searches_of_some {w : WorkingSet} {left : Nat} {ws : WorkSums} {chosen : List Nat} {c : Candidate} {e : Int}
    (h : w.choose ws (w.candidates chosen) = some (c, e)) :
    w.searches (left + 1) ws chosen =
      (⟨c.entry.n, c.source, c.target, gain w.policy ws c, e⟩ :: (w.searches left (ws.apply c) (c.entry.n :: chosen)).1,
        (w.candidates chosen).length + (w.searches left (ws.apply c) (c.entry.n :: chosen)).2) := by
  simp only [WorkingSet.searches, h]

theorem WorkingSet.searches_length (w : WorkingSet) (left : Nat) (ws : WorkSums) (chosen : List Nat) :
    (w.searches left ws chosen).1.length ≤ left := by
  induction left generalizing ws chosen with
  | zero => exact Nat.zero_le _
  | succ left ih =>
    cases h : w.choose ws (w.candidates chosen) with
    | none => simp [WorkingSet.searches_of_none h]
    | some x => simpa [WorkingSet.searches_of_some h] using ih (ws.apply x.1) (x.1.entry.n :: chosen)

/-- No consumer is chosen twice, nor one that was chosen before (R48). -/
theorem WorkingSet.searches_nodup (w : WorkingSet) (left : Nat) (ws : WorkSums) (chosen : List Nat) :
    ((w.searches left ws chosen).1.map (·.consumer)).Nodup ∧
      ∀ m ∈ (w.searches left ws chosen).1, m.consumer ∉ chosen := by
  induction left generalizing ws chosen with
  | zero => simp [WorkingSet.searches]
  | succ left ih =>
    cases h : w.choose ws (w.candidates chosen) with
    | none => simp [WorkingSet.searches_of_none h]
    | some x =>
      obtain ⟨hnodup, hfresh⟩ := ih (ws.apply x.1) (x.1.entry.n :: chosen)
      obtain ⟨-, -, hn, -, -⟩ := WorkingSet.mem_candidates.1 (WorkingSet.choose_mem h).1
      simp only [List.mem_cons, not_or] at hfresh
      rw [WorkingSet.searches_of_some h]
      refine ⟨List.nodup_cons.2 ⟨fun hmem => ?_, hnodup⟩, fun m hm => ?_⟩
      · obtain ⟨m, hm, hmn⟩ := List.mem_map.1 hmem
        exact (hfresh m hm).1 hmn
      · obtain rfl | hm := List.mem_cons.1 hm
        · exact hn
        · exact (hfresh m hm).2

/-- The selected list is no longer than the limit of moves, and names no consumer twice (R54, R71). -/
theorem WorkingSet.selection_bounds (w : WorkingSet) :
    w.selection.1.length ≤ w.policy.movesPerRound ∧ (w.selection.1.map (·.consumer)).Nodup := by
  by_cases h : w.Open
  · rw [WorkingSet.selection_of_open h]
    exact ⟨w.searches_length .., (w.searches_nodup ..).1⟩
  · simp [WorkingSet.selection_of_not_open h]

/-! ### Eligible consumers and candidates (R48, R70) -/

theorem WorkingSet.mem_targets {w : WorkingSet} {e : WorkEntry} {q : Phase} :
    q ∈ w.targets e ↔ e.allowed.get q = true ∧ e.recorded ≠ some q ∧ w.present.get q = true := by
  simp [WorkingSet.targets, mem_phases, and_assoc]

theorem frozenAt_eq_false {frozen : List Bool} {segment : Nat} :
    frozenAt frozen segment = false ↔ ∀ b ∈ frozen.take (segment + 1), b = false := by
  simp [frozenAt]

/-- What makes a consumer eligible (R70). -/
theorem WorkingSet.eligible_iff {w : WorkingSet} {e : WorkEntry} :
    w.eligible e = true ↔
      e.phaseState = .confirmed ∧
      (∃ r, e.readingRound = some r ∧ (w.round - r).toNat ≤ w.policy.staleness) ∧
      e.held = false ∧
      (∀ b ∈ w.frozenSegs.take (e.segment + 1), b = false) ∧
      e.health ≤ 39 ∧ e.lockout = false ∧ e.fault = false ∧
      (∀ r, e.lastMove = some r → w.policy.dwell ≤ (w.round - r).toNat) ∧
      e.ops < w.policy.opsLimit ∧
      (∃ q, e.allowed.get q = true ∧ e.recorded ≠ some q ∧ w.present.get q = true) := by
  have hread : (match e.readingRound with
      | some r => decide (since w.round r ≤ w.policy.staleness)
      | none => false) = true ↔ ∃ r, e.readingRound = some r ∧ (w.round - r).toNat ≤ w.policy.staleness := by
    cases e.readingRound with
    | none => simp
    | some r => exact decide_eq_true_iff.trans (by simp [since])
  have hdwell : (match e.lastMove with
      | some r => decide (w.policy.dwell ≤ since w.round r)
      | none => true) = true ↔ ∀ r, e.lastMove = some r → w.policy.dwell ≤ (w.round - r).toNat := by
    cases e.lastMove with
    | none => simp
    | some r => exact decide_eq_true_iff.trans (by simp [since])
  have htargets : (!(w.targets e).isEmpty) = true ↔
      ∃ q, e.allowed.get q = true ∧ e.recorded ≠ some q ∧ w.present.get q = true := by
    simp only [← WorkingSet.mem_targets, Bool.not_eq_true', List.isEmpty_eq_false_iff_exists_mem]
  unfold WorkingSet.eligible
  simp only [Bool.and_eq_true, and_assoc, beq_iff_eq, decide_eq_true_eq, Bool.not_eq_true', frozenAt_eq_false] at *
  rw [htargets]
  exact and_congr_right fun _ => and_congr hread (and_congr_right fun _ => and_congr_right fun _ => and_congr_right fun _ =>
    and_congr_right fun _ => and_congr_right fun _ => and_congr hdwell Iff.rfl)

theorem WorkingSet.mem_candidates_iff {w : WorkingSet} {chosen : List Nat} {c : Candidate} :
    c ∈ w.candidates chosen ↔ c.entry ∈ w.entries ∧ w.eligible c.entry = true ∧ c.entry.n ∉ chosen ∧
      c.entry.recorded = some c.source ∧ c.entry.allowed.get c.target = true ∧ c.target ≠ c.source ∧
      w.present.get c.target = true := by
  rw [WorkingSet.mem_candidates]
  refine and_congr_right fun _ => and_congr_right fun _ => and_congr_right fun _ => and_congr_right fun hp => ?_
  rw [WorkingSet.mem_targets, hp, ne_eq, Option.some.injEq, eq_comm (a := c.source)]

theorem State.workingSet_sorted (s : State) : (s.workingSet.entries.map (·.n)).Pairwise (· < ·) := by
  have hnumbers : s.workingSet.entries.map (·.n) = s.present.map Prod.fst := by
    rw [State.workingSet, List.map_map]
    rfl
  rw [hnumbers, List.pairwise_map]
  exact s.present_sorted

theorem WorkingSet.targets_sorted (w : WorkingSet) (e : WorkEntry) :
    (w.targets e).Pairwise fun p q => phaseCode p < phaseCode q := by
  refine List.Pairwise.filter _ ?_
  simp [phases, phaseCode]

/-- The candidates are valued in the order of consumer number, then L1, L2, L3 (R48). -/
theorem WorkingSet.candidates_sorted (w : WorkingSet) (chosen : List Nat) (h : (w.entries.map (·.n)).Pairwise (· < ·)) :
    (w.candidates chosen).Pairwise fun c d =>
      c.entry.n < d.entry.n ∨ (c.entry.n = d.entry.n ∧ phaseCode c.target < phaseCode d.target) := by
  have hentry (e : WorkEntry) (c : Candidate) (hc : c ∈ (match e.recorded with
      | some p => (w.targets e).map fun q => ({ entry := e, source := p, target := q } : Candidate)
      | none => [])) : c.entry = e := by
    cases hp : e.recorded with
    | none => simp [hp] at hc
    | some p =>
      simp only [hp, List.mem_map] at hc
      obtain ⟨q, -, rfl⟩ := hc
      rfl
  rw [List.pairwise_map] at h
  refine List.pairwise_flatMap.2 ⟨fun e _ => ?_, (h.filter _).imp fun hlt c hc d hd => ?_⟩
  · cases e.recorded with
    | none => exact List.Pairwise.nil
    | some p => exact List.pairwise_map.2 ((w.targets_sorted e).imp fun hlt => .inr ⟨rfl, hlt⟩)
  · rw [hentry _ c hc, hentry _ d hd]
    exact .inl hlt

/-! ### The figures of a candidate (R49 to R51, R53) -/

theorem limitSq_eq (limit : Nat) : limitSq limit = (10 * (limit : Int)) * (10 * (limit : Int)) := by
  rw [limitSq]
  push_cast
  rfl

theorem effective_eq (p : Policy) (ws : WorkSums) (c : Candidate) :
    effective p ws c = gain p ws c - (c.entry.cost : Int) * p.costUnit := by
  rw [effective, Nat.cast_mul]

/-- The limit tests of a candidate, segment by segment up to the consumer's own (R51). -/
theorem WorkingSet.withinLimits_iff {w : WorkingSet} {ws : WorkSums} {c : Candidate} :
    w.withinLimits ws c = true ↔ ∀ k ps, k ≤ c.entry.segment → ws.sums[k]? = some ps →
      breaks (w.limit k) (ps.get c.source) ((ps.get c.source).sub c.entry.frozen) = false ∧
      breaks (w.limit k) (ps.get c.target) ((ps.get c.target).add c.entry.frozen) = false := by
  simp only [WorkingSet.withinLimits, List.all_eq_true, Prod.forall, List.mk_mem_zipIdx_iff_getElem?, List.getElem?_take,
    Bool.and_eq_true, Bool.not_eq_true', Nat.lt_succ_iff]
  constructor
  · intro h k ps hk hps
    exact h ps k (by rw [if_pos hk, hps])
  · intro h ps k hps
    split at hps
    · next hk => exact h k ps hk hps
    · cases hps

theorem breaks_eq_false_iff {limit : Nat} {before after : Phasor} :
    breaks limit before after = false ↔
      ¬((10 * (limit : Int)) * (10 * (limit : Int)) < after.normSq ∧ before.normSq < after.normSq) := by
  rw [← Bool.not_eq_true, breaks, limitSq_eq, Bool.and_eq_true, decide_eq_true_iff, decide_eq_true_iff]

theorem WorkSums.apply_neutral (ws : WorkSums) (c : Candidate) (k : Nat) :
    (ws.apply c).neutrals[k]? = ws.neutrals[k]?.map fun v => if k ≤ c.entry.segment then v.add c.delta else v := by
  simp only [WorkSums.apply, List.getElem?_map, List.getElem?_zipIdx, Option.map_map, Nat.zero_add]
  rfl

theorem WorkSums.apply_sum (ws : WorkSums) {c : Candidate} (hne : c.source ≠ c.target) (k : Nat) (p : Phase) :
    (ws.apply c).sums[k]?.map (·.get p) = ws.sums[k]?.map fun ps =>
      if k ≤ c.entry.segment then
        if p = c.source then (ps.get p).sub c.entry.frozen
        else if p = c.target then (ps.get p).add c.entry.frozen else ps.get p
      else ps.get p := by
  simp only [WorkSums.apply, List.getElem?_map, List.getElem?_zipIdx, Option.map_map, Nat.zero_add]
  congr 1
  funext ps
  simp only [Function.comp_apply]
  split
  · rw [PerPhase.get_set, PerPhase.get_set, PerPhase.get_set, if_neg hne.symm]
    split_ifs <;> simp_all
  · rfl

/-- The weighted squares of a list from segment n on, after a change of the segments up to one of them (R49, R53). -/
theorem weightedSum_shifted (weight : Nat → Int) (shift : Phasor → Phasor) (segment : Nat) (vs : List Phasor) (n : Nat) :
    ((vs.zipIdx n).map fun x => weight x.2 * (if x.2 ≤ segment then shift x.1 else x.1).normSq).sum =
      ((vs.zipIdx n).map fun x => weight x.2 * x.1.normSq).sum -
        (((vs.take (segment + 1 - n)).zipIdx n).map fun x => weight x.2 * (x.1.normSq - (shift x.1).normSq)).sum := by
  induction vs generalizing n with
  | nil => simp
  | cons v vs ih =>
    have hrest : segment + 1 - (n + 1) = segment - n := by omega
    have htail := ih (n + 1)
    rw [hrest] at htail
    by_cases hn : n ≤ segment
    · have htake : segment + 1 - n = segment - n + 1 := by omega
      simp only [List.zipIdx_cons, List.map_cons, List.sum_cons, htake, List.take_succ_cons, hn, if_true, htail]
      ring
    · have htake : segment + 1 - n = 0 := by omega
      have htake' : segment - n = 0 := by omega
      simp only [List.zipIdx_cons, List.map_cons, List.sum_cons, htake, List.take_zero, hn, if_false, htail, htake',
        List.zipIdx_nil, List.map_nil, List.sum_nil]
      ring

theorem zipIdx_map_zipIdx {α β : Type} (vs : List α) (f : α × Nat → β) :
    (vs.zipIdx.map f).zipIdx = vs.zipIdx.map fun x => (f x, x.2) := by
  refine List.ext_getElem? fun k => ?_
  simp only [List.getElem?_zipIdx, List.getElem?_map, Option.map_map, Nat.zero_add]
  rfl

/-- A chosen move lowers the working score by exactly its gain (R49, R53). -/
theorem weightedScore_apply (p : Policy) (ws : WorkSums) (c : Candidate) :
    weightedScore p (ws.apply c).neutrals = weightedScore p ws.neutrals - gain p ws c := by
  have h := weightedSum_shifted (fun k => (p.weight k : Int)) (·.add c.delta) c.entry.segment ws.neutrals 0
  rw [weightedScore, WorkSums.apply, zipIdx_map_zipIdx, List.map_map]
  exact h

/-! ### The choice (R50 to R52) -/

/-- A candidate is accepted on its effective gain and within the limits (R50, R51). -/
def WorkingSet.Fits (w : WorkingSet) (ws : WorkSums) (c : Candidate) : Prop :=
  0 < effective w.policy ws c ∧ (w.policy.gainMin : Int) ≤ effective w.policy ws c ∧ w.withinLimits ws c = true

theorem WorkingSet.fits_iff {w : WorkingSet} {ws : WorkSums} {c : Candidate} :
    (acceptable w.policy (effective w.policy ws c) && w.withinLimits ws c) = true ↔ w.Fits ws c := by
  simp [acceptable, WorkingSet.Fits, and_assoc]

/-- The best of a list of candidates: the first of those with the largest effective gain (R52). -/
def WorkingSet.IsBest (w : WorkingSet) (ws : WorkSums) (cs : List Candidate) : Option (Candidate × Int) → Prop
  | none => ∀ c ∈ cs, ¬w.Fits ws c
  | some (c, e) => ∃ before after, cs = before ++ c :: after ∧ w.Fits ws c ∧ e = effective w.policy ws c ∧
      (∀ d ∈ before, w.Fits ws d → effective w.policy ws d < e) ∧
      (∀ d ∈ after, w.Fits ws d → effective w.policy ws d ≤ e)

/-- A candidate that does not fit leaves the best as it was. -/
theorem WorkingSet.IsBest.append_unfit {w : WorkingSet} {ws : WorkSums} {cs : List Candidate} {best : Option (Candidate × Int)}
    {d : Candidate} (h : w.IsBest ws cs best) (hd : ¬w.Fits ws d) : w.IsBest ws (cs ++ [d]) best := by
  match best with
  | none =>
    intro c hc
    obtain hc | hc := List.mem_append.1 hc
    · exact h c hc
    · rwa [List.mem_singleton.1 hc]
  | some (c, e) =>
    obtain ⟨before, after, rfl, hfit, he, hbefore, hafter⟩ := h
    refine ⟨before, after ++ [d], by simp, hfit, he, hbefore, fun x hx hxf => ?_⟩
    obtain hx | hx := List.mem_append.1 hx
    · exact hafter x hx hxf
    · exact absurd (List.mem_singleton.1 hx ▸ hxf) hd

/-- A candidate that fits becomes the best where its effective gain is larger than the best so far. -/
theorem WorkingSet.IsBest.append_fit {w : WorkingSet} {ws : WorkSums} {cs : List Candidate} {best : Option (Candidate × Int)}
    {d : Candidate} (h : w.IsBest ws cs best) (hd : w.Fits ws d) :
    w.IsBest ws (cs ++ [d]) (better best d (effective w.policy ws d)) := by
  match best with
  | none =>
    change ∃ before after, cs ++ [d] = before ++ d :: after ∧ _
    exact ⟨cs, [], rfl, hd, rfl, fun x hx hxf => absurd hxf (h x hx), List.forall_mem_nil _⟩
  | some (c, e) =>
    obtain ⟨before, after, rfl, hfit, rfl, hbefore, hafter⟩ := h
    have hmost (x : Candidate) (hx : x ∈ before ++ c :: after) (hxf : w.Fits ws x) :
        effective w.policy ws x ≤ effective w.policy ws c := by
      obtain hx | hx := List.mem_append.1 hx
      · exact (hbefore x hx hxf).le
      · obtain rfl | hx := List.mem_cons.1 hx
        · exact le_rfl
        · exact hafter x hx hxf
    unfold better
    dsimp only
    split
    · next hlt => exact ⟨before ++ c :: after, [], rfl, hd, rfl, fun x hx hxf => (hmost x hx hxf).trans_lt hlt, List.forall_mem_nil _⟩
    · next hle =>
      refine ⟨before, after ++ [d], by simp, hfit, rfl, hbefore, fun x hx hxf => ?_⟩
      obtain hx | hx := List.mem_append.1 hx
      · exact hafter x hx hxf
      · rw [List.mem_singleton.1 hx]
        exact Int.not_lt.1 hle

theorem WorkingSet.choose_isBest (w : WorkingSet) (ws : WorkSums) (cs : List Candidate) : w.IsBest ws cs (w.choose ws cs) := by
  induction cs using List.reverseRecOn with
  | nil => exact fun c hc => absurd hc List.not_mem_nil
  | append_singleton cs d ih =>
    have hstep : w.choose ws (cs ++ [d]) =
        if acceptable w.policy (effective w.policy ws d) && w.withinLimits ws d
          then better (w.choose ws cs) d (effective w.policy ws d) else w.choose ws cs := List.foldl_append
    rw [hstep]
    split
    · next h => exact ih.append_fit (WorkingSet.fits_iff.1 h)
    · next h => exact ih.append_unfit fun hd => h (WorkingSet.fits_iff.2 hd)

/-- Settles O38. -/
theorem searchChoosesTheBestCandidate : Obligations.SearchChoosesTheBestCandidate := by
  unfold Obligations.SearchChoosesTheBestCandidate
  refine ⟨fun w => ⟨WorkingSet.gate_eq_none, WorkingSet.selection_of_not_open, WorkingSet.selection_of_open,
      w.selection_bounds⟩,
    fun w e => WorkingSet.eligible_iff, fun w chosen c => WorkingSet.mem_candidates_iff, State.workingSet_sorted,
    WorkingSet.candidates_sorted, fun w ws c => ⟨rfl, effective_eq .., ?_, ws.apply_neutral c,
      fun hne => ws.apply_sum hne, weightedScore_apply ..⟩, fun w ws cs => ?_,
    fun w left ws chosen => ⟨rfl, WorkingSet.searches_of_none, fun c e => WorkingSet.searches_of_some⟩⟩
  · rw [WorkingSet.withinLimits_iff]
    simp only [breaks_eq_false_iff]
    rfl
  · have hbest := w.choose_isBest ws cs
    cases hchoose : w.choose ws cs with
    | none => exact hchoose ▸ hbest
    | some x =>
      rw [hchoose] at hbest
      exact hbest

end Sys2Proof.Machine


/-! PROOFS. The completion of a round (sections 4.6 and 4.7): the post, what is published, and the figures of
accumulation and reconciliation with their bounds (sections 3.1, 3.3 and 3.5). -/

namespace Sys2Proof.Machine

/-! ### The post (R72) -/

theorem State.post_append (s : State) (round : RoundNo) (moves : List Selected) (m : Selected) :
    s.post round (moves ++ [m]) = State.postOne round (s.post round moves) m := by
  rw [State.post, List.foldl_append]
  rfl

/-- The post changes the queue alone. -/
theorem State.post_eq (s : State) (round : RoundNo) (moves : List Selected) :
    (s.post round moves).1 = { s with queue := (s.post round moves).1.queue } := by
  induction moves using List.reverseRecOn with
  | nil => rfl
  | append_singleton moves m ih =>
    rw [State.post_append]
    unfold State.postOne
    split
    · rw [State.makeMove, ih]
    · exact ih

/-- The checks of the post on the state as it stands (R22, R72). -/
theorem State.postable_iff {s : State} {m : Selected} :
    s.postable m = true ↔ s.engine.run = .auto ∧
      (∃ c, s.consumer? m.consumer = some c ∧ c.phaseState = .confirmed ∧ c.recorded = some m.source ∧
        c.allowed.get m.target = true ∧ c.hold = none ∧ s.isFrozen c.segment = false) ∧
      (∀ w, s.engine.work = some w → m.consumer ∉ w.replaced) ∧
      (∀ r ∈ s.queue.records, r.consumer ≠ m.consumer) ∧ s.queue.records.length < 16 := by
  have hreplaced : s.replacedInRound m.consumer = false ↔ ∀ w, s.engine.work = some w → m.consumer ∉ w.replaced := by
    unfold State.replacedInRound
    cases s.engine.work <;> simp
  have hnamed : s.named m.consumer = false ↔ ∀ r ∈ s.queue.records, r.consumer ≠ m.consumer := State.named_eq_false
  unfold State.postable
  cases hc : s.consumer? m.consumer with
  | none => simp
  | some c =>
    simp only [Bool.and_eq_true, beq_iff_eq, Bool.not_eq_true', hreplaced, hnamed, decide_eq_true_eq, Option.some.injEq,
      exists_eq_left', and_assoc, Consumer.isHeld, Option.isSome_eq_false_iff, Option.isNone_iff_eq_none]
    rfl

theorem State.post_of_postable {s : State} {round : RoundNo} {moves : List Selected} {m : Selected}
    (h : (s.post round moves).1.postable m = true) :
    s.post round (moves ++ [m]) =
      ((s.post round moves).1.makeMove m.consumer m.source m.target .engine round, (s.post round moves).2 + 1) := by
  rw [State.post_append, State.postOne, if_pos h]

theorem State.post_of_not_postable {s : State} {round : RoundNo} {moves : List Selected} {m : Selected}
    (h : ¬(s.post round moves).1.postable m = true) : s.post round (moves ++ [m]) = s.post round moves := by
  rw [State.post_append, State.postOne, if_neg h]

/-! ### What a completion leaves (R26, R73 to R75) -/

theorem State.complete_eq (s : State) (w : WorkingSet) :
    s.complete w =
      { s with
        queue := (s.post w.round w.selection.1).1.queue
        engine := { s.engine with
          work := none
          summary := some (w.summary s.engine.run (s.post w.round w.selection.1).2) }
        segs := { s.segs with segments := w.publish s.segs.segments }
        ports := if (w.summary s.engine.run (s.post w.round w.selection.1).2).outcome = .mismatch
          then (s.ports.map fun q => q.raise .round).map fun q => q.raise .mismatch
          else s.ports.map fun q => q.raise .round } := by
  unfold State.complete
  generalize hposted : s.post w.round w.selection.1 = posted
  obtain ⟨t, n⟩ := posted
  obtain ⟨queue, rfl⟩ : ∃ queue, t = { s with queue := queue } :=
    ⟨_, (congrArg Prod.fst hposted).symm.trans (s.post_eq w.round w.selection.1)⟩
  dsimp only
  split <;> rfl

/-! ### The sums of a round (R40, R43, R46) -/

/-- What an entry adds to a sum at segment k: nothing where it is not counted, or stands nearer the head (R40, R43). -/
def WorkEntry.share (e : WorkEntry) (k : Nat) (part : Phase → Phasor → Int) : Int :=
  match e.recorded with
  | some p => if e.phaseState ≠ .unknown ∧ k ≤ e.segment then part p e.frozen else 0
  | none => 0

theorem phasorSum_eq (vs : List Phasor) : phasorSum vs = ⟨(vs.map (·.x)).sum, (vs.map (·.y)).sum⟩ := by
  have hfrom (v : Phasor) : vs.foldl Phasor.add v = ⟨v.x + (vs.map (·.x)).sum, v.y + (vs.map (·.y)).sum⟩ := by
    induction vs generalizing v with
    | nil => simp
    | cons u vs ih => simp only [List.foldl_cons, ih, Phasor.add, List.map_cons, List.sum_cons, Int.add_assoc]
  simpa [phasorSum, Phasor.zero] using hfrom Phasor.zero

/-- A sum over the entries that give something is the sum over all, with 0 for the others. -/
theorem sum_filterMap {es : List WorkEntry} {give : WorkEntry → Option Phasor} {component : Phasor → Int}
    {value : WorkEntry → Int} (h : ∀ e, ((give e).map component).getD 0 = value e) :
    ((es.filterMap give).map component).sum = (es.map value).sum := by
  induction es with
  | nil => rfl
  | cons e es ih =>
    have he := h e
    cases hg : give e with
    | none => simp_all
    | some v => simp_all

theorem neutralSum_eq (es : List WorkEntry) (k : Nat) :
    neutralSum es k = ⟨(es.map fun e => e.share k fun p v => (rotate p v).x).sum,
      (es.map fun e => e.share k fun p v => (rotate p v).y).sum⟩ := by
  have hshare (component : Phasor → Int) (e : WorkEntry) :
      ((if decide (k ≤ e.segment) = true then e.contribution else none).map component).getD 0 =
        e.share k fun p v => component (rotate p v) := by
    unfold WorkEntry.contribution WorkEntry.countedPhase WorkEntry.share
    cases e.recorded <;> by_cases hu : e.phaseState = .unknown <;> by_cases hk : k ≤ e.segment <;> simp [hu, hk]
  rw [neutralSum, phasorSum_eq, List.filterMap_filter, sum_filterMap (hshare _), sum_filterMap (hshare _)]

theorem phaseSumOn_eq (es : List WorkEntry) (k : Nat) (p : Phase) :
    phaseSumOn es k p = ⟨(es.map fun e => e.share k fun q v => if q = p then v.x else 0).sum,
      (es.map fun e => e.share k fun q v => if q = p then v.y else 0).sum⟩ := by
  have hshare (component : Phasor → Int) (e : WorkEntry) :
      ((if (decide (k ≤ e.segment) && e.countedPhase == some p) = true then some e.frozen else none).map component).getD 0 =
        e.share k fun q v => if q = p then component v else 0 := by
    unfold WorkEntry.countedPhase WorkEntry.share
    cases hr : e.recorded with
    | none => simp
    | some q =>
      by_cases hu : e.phaseState = .unknown
      · simp [hu]
      · by_cases hk : k ≤ e.segment <;> by_cases hq : q = p <;> simp [hu, hk, hq]
  have hmap : (es.filter fun e => decide (k ≤ e.segment) && e.countedPhase == some p).map (·.frozen) =
      es.filterMap fun e => if (decide (k ≤ e.segment) && e.countedPhase == some p) = true then some e.frozen else none := by
    rw [← List.filterMap_eq_map, List.filterMap_filter]
    rfl
  rw [phaseSumOn, phasorSum_eq, hmap, sum_filterMap (hshare _), sum_filterMap (hshare _)]

/-! ### Score, results and reconciliation (R26, R33, R44, R55, R56, R69) -/

theorem zipIdx_map_range {α : Type} (f : Nat → α) (n : Nat) :
    ((List.range n).map f).zipIdx = (List.range n).map fun k => (f k, k) := by
  refine List.ext_getElem? fun i => ?_
  simp only [List.getElem?_zipIdx, List.getElem?_map, Option.map_map, Nat.zero_add]
  by_cases hi : i < n <;> simp [hi]

theorem WorkingSet.score_eq (w : WorkingSet) :
    w.score = ((List.range w.count).map fun k =>
      (w.policy.weights.getD k 0 : Int) * (neutralSum w.entries k).normSq).sum.toNat := by
  rw [WorkingSet.score, weightedScore, WorkingSet.neutrals, zipIdx_map_range, List.map_map]
  rfl

theorem WorkingSet.segResult_eq (w : WorkingSet) (k : Nat) :
    w.segResult k =
      ⟨w.round, neutralSum w.entries k, (neutralSum w.entries k).normSq.toNat,
        isqrt (neutralSum w.entries k).normSq.toNat / 2, phaseSums w.entries k, (phaseSums w.entries k).map magnitude,
        (phaseSums w.entries k).map fun v =>
          decide ((10 * (w.limits.getD k 0 : Int)) * (10 * (w.limits.getD k 0 : Int)) < v.normSq)⟩ := by
  simp only [← limitSq_eq]
  rfl

theorem WorkingSet.freshHead_eq_some {w : WorkingSet} {h : HeadReport} :
    w.freshHead = some h ↔ w.head = some h ∧ (w.round - h.stamp).toNat ≤ w.policy.headAge := by
  unfold WorkingSet.freshHead
  cases hhead : w.head with
  | none => simp
  | some g =>
    rw [Option.ite_none_right_eq_some, and_comm]
    refine and_congr_right fun hg => ?_
    rw [Option.some.inj hg]
    rfl

theorem WorkingSet.residual_get (w : WorkingSet) (h : HeadReport) (p : Phase) :
    (w.residual h).get p = (h.currents.get p).sub (phaseSumOn w.entries 0 p) := by
  cases p <;> rfl

theorem PerPhase.mem_toList {α : Type} {v : PerPhase α} {x : α} : x ∈ v.toList ↔ ∃ p, v.get p = x := by
  simp only [PerPhase.toList, List.mem_cons, List.not_mem_nil, or_false]
  constructor
  · rintro (rfl | rfl | rfl)
    exacts [⟨.l1, rfl⟩, ⟨.l2, rfl⟩, ⟨.l3, rfl⟩]
  · rintro ⟨_ | _ | _, rfl⟩
    exacts [.inl rfl, .inr (.inl rfl), .inr (.inr rfl)]

theorem WorkingSet.mismatch_iff {w : WorkingSet} :
    w.mismatch = true ↔ 0 < w.policy.headTolerance ∧ ∃ h p, w.freshHead = some h ∧
      (w.policy.headTolerance : Int) * w.policy.headTolerance < ((w.residual h).get p).normSq := by
  unfold WorkingSet.mismatch
  cases w.freshHead with
  | none => simp
  | some h => simp [PerPhase.mem_toList]

theorem WorkingSet.provisional_eq (w : WorkingSet) :
    w.provisional = if w.run = .off then .off else if w.mains ≠ .valid then .mains
      else if w.occupancy ≠ 0 then .deferred else if w.mismatch = true then .mismatch
      else if w.selection.1 = [] then .none else .selected := by
  have hempty : w.selection.1.isEmpty = true ↔ w.selection.1 = [] := List.isEmpty_iff
  unfold WorkingSet.provisional WorkingSet.gate
  split_ifs <;> simp_all

/-! ### The bounds (R43 to R46, R55) -/

theorem sum_bounds {l : List Int} {b : Int} (hb : 0 ≤ b) (hlen : l.length ≤ 96) (h : ∀ x ∈ l, -b ≤ x ∧ x ≤ b) :
    -(96 * b) ≤ l.sum ∧ l.sum ≤ 96 * b := by
  have hmost : |l.sum| ≤ (l.length : Int) * b := by
    clear hlen
    induction l with
    | nil => simp
    | cons x l ih =>
      have hx := abs_le.2 (h x List.mem_cons_self)
      have hl := ih fun y hy => h y (List.mem_cons_of_mem _ hy)
      calc |(x :: l).sum| ≤ |x| + |l.sum| := by rw [List.sum_cons]; exact abs_add_le x l.sum
        _ ≤ b + (l.length : Int) * b := by omega
        _ = ((x :: l).length : Int) * b := by rw [List.length_cons]; push_cast; ring
  have hcap : (l.length : Int) * b ≤ 96 * b := mul_le_mul_of_nonneg_right (by exact_mod_cast hlen) hb
  exact abs_le.1 (hmost.trans hcap)

/-- A sum of shares that are bounded, over at most 96 entries. -/
theorem share_sum_bounds {es : List WorkEntry} {k : Nat} {part : Phase → Phasor → Int} {b : Int} (hb : 0 ≤ b)
    (hlen : es.length ≤ 96) (h : ∀ e ∈ es, ∀ p, -b ≤ part p e.frozen ∧ part p e.frozen ≤ b) :
    -(96 * b) ≤ (es.map fun e => e.share k part).sum ∧ (es.map fun e => e.share k part).sum ≤ 96 * b := by
  refine sum_bounds hb (by simpa using hlen) fun x hx => ?_
  obtain ⟨e, he, rfl⟩ := List.mem_map.1 hx
  unfold WorkEntry.share
  split
  · split
    · exact h e he _
    · omega
  · omega

theorem neutralSum_within {es : List WorkEntry} (hlen : es.length ≤ 96) (h : ∀ e ∈ es, e.frozen.within 1000) (k : Nat) :
    (neutralSum es k).within 262272 := by
  have hrotate (e : WorkEntry) (he : e ∈ es) (p : Phase) := rotate_bounds (h e he).1.1 (h e he).1.2 (h e he).2.1 (h e he).2.2 p
  rw [neutralSum_eq]
  refine ⟨share_sum_bounds (b := 2732) (by decide) hlen fun e he p => ?_,
    share_sum_bounds (b := 2732) (by decide) hlen fun e he p => ?_⟩
  · obtain ⟨hx, hx', -, -⟩ := hrotate e he p
    exact ⟨hx, hx'⟩
  · obtain ⟨-, -, hy, hy'⟩ := hrotate e he p
    exact ⟨hy, hy'⟩

theorem phaseSumOn_within {es : List WorkEntry} (hlen : es.length ≤ 96) (h : ∀ e ∈ es, e.frozen.within 1000) (k : Nat)
    (p : Phase) : (phaseSumOn es k p).within 96000 := by
  rw [phaseSumOn_eq]
  refine ⟨share_sum_bounds (b := 1000) (by decide) hlen fun e he q => ?_,
    share_sum_bounds (b := 1000) (by decide) hlen fun e he q => ?_⟩
  · split
    · exact (h e he).1
    · decide
  · split
    · exact (h e he).2
    · decide

theorem Phasor.sub_within {u v : Phasor} {a b : Int} (hu : u.within a) (hv : v.within b) : (u.sub v).within (a + b) := by
  simp only [Phasor.within, Phasor.sub] at hu hv ⊢
  omega

theorem Policy.wf.weight_le {q : Policy} (h : q.wf) {k : Nat} (hk : k < 8) : q.weights.getD k 0 ≤ 15 := by
  have hfield := (h.2 (k + 4) (List.mem_range.2 (by omega))).2
  interval_cases k <;> exact hfield

theorem Policy.wf.movesPerRound_le {q : Policy} (h : q.wf) : q.movesPerRound ≤ 4 :=
  (h.2 1 (by decide)).2

theorem WorkingSet.wf.normSq_le {w : WorkingSet} (h : w.wf) (k : Nat) :
    (neutralSum w.entries k).normSq ≤ 137573203968 := by
  obtain ⟨hlen, hread, -, -, -⟩ := h
  obtain ⟨hx, hy⟩ := neutralSum_within hlen hread k
  exact Phasor.normSq_le hx hy

theorem Phasor.normSq_nonneg (v : Phasor) : 0 ≤ v.normSq :=
  add_nonneg (mul_self_nonneg v.x) (mul_self_nonneg v.y)

theorem WorkingSet.wf.score_le {w : WorkingSet} (h : w.wf) : w.score ≤ 16508784476160 := by
  have hterm (x : Int) (hx : x ∈ (List.range w.count).map fun k =>
      (w.policy.weights.getD k 0 : Int) * (neutralSum w.entries k).normSq) : x ≤ 15 * 137573203968 := by
    obtain ⟨k, hk, rfl⟩ := List.mem_map.1 hx
    obtain ⟨-, -, hcount, hpolicy, -⟩ := id h
    have hweight : (w.policy.weights.getD k 0 : Int) ≤ 15 := by
      exact_mod_cast hpolicy.weight_le ((List.mem_range.1 hk).trans_le hcount)
    exact mul_le_mul hweight (h.normSq_le k) (Phasor.normSq_nonneg _) (by decide)
  have hsum := List.sum_le_card_nsmul _ _ hterm
  have hcount : w.count ≤ 8 := h.2.2.1
  rw [List.length_map, List.length_range, nsmul_eq_mul] at hsum
  rw [WorkingSet.score_eq]
  omega

/-! ### How many candidates a round examines (R48, R71, R75) -/

/-- The entries whose consumer has not been chosen. -/
def WorkingSet.unchosen (w : WorkingSet) (chosen : List Nat) : List WorkEntry :=
  w.entries.filter fun e => decide (e.n ∉ chosen)

theorem WorkingSet.targets_length {w : WorkingSet} {e : WorkEntry} {p : Phase} (h : e.recorded = some p) :
    (w.targets e).length ≤ 2 :=
  Nat.lt_succ_iff.1 (List.length_filter_lt_length_iff_exists.2 ⟨p, mem_phases p, by simp [h]⟩)

theorem WorkingSet.candidates_length (w : WorkingSet) (chosen : List Nat) :
    (w.candidates chosen).length ≤ 2 * (w.unchosen chosen).length := by
  have hsearched : (w.entries.filter fun e => w.eligible e && !chosen.contains e.n).length ≤ (w.unchosen chosen).length :=
    (List.monotone_filter_right w.entries fun e he => by simp_all).length_le
  have htwo (x : Nat) (hx : x ∈ (w.entries.filter fun e => w.eligible e && !chosen.contains e.n).map fun e =>
      (match e.recorded with
        | some p => (w.targets e).map fun q => ({ entry := e, source := p, target := q } : Candidate)
        | none => []).length) : x ≤ 2 := by
    obtain ⟨e, -, rfl⟩ := List.mem_map.1 hx
    cases hp : e.recorded with
    | none => simp
    | some p => simpa [hp] using WorkingSet.targets_length hp
  have hsum := List.sum_le_card_nsmul _ _ htwo
  rw [List.length_map, smul_eq_mul] at hsum
  rw [WorkingSet.candidates, List.length_flatMap]
  exact hsum.trans (by omega)

theorem WorkingSet.unchosen_cons_lt {w : WorkingSet} {chosen : List Nat} {e : WorkEntry} (he : e ∈ w.entries)
    (hn : e.n ∉ chosen) : (w.unchosen (e.n :: chosen)).length < (w.unchosen chosen).length := by
  have hrest : w.unchosen (e.n :: chosen) = (w.unchosen chosen).filter fun d => decide (d.n ≠ e.n) := by
    rw [WorkingSet.unchosen, WorkingSet.unchosen, List.filter_filter]
    refine List.filter_congr fun d _ => ?_
    simp [List.mem_cons, not_or]
  rw [hrest]
  exact List.length_filter_lt_length_iff_exists.2 ⟨e, List.mem_filter.2 ⟨he, by simpa using hn⟩, by simp⟩

/-- The most candidates that searches examine when each finds one entry fewer than the one before. -/
def examinedAtMost : Nat → Nat → Nat
  | 0, _ => 0
  | left + 1, free => 2 * free + examinedAtMost left (free - 1)

theorem WorkingSet.searches_examined {w : WorkingSet} {left : Nat} {ws : WorkSums} {chosen : List Nat} {free : Nat}
    (hfree : (w.unchosen chosen).length ≤ free) : (w.searches left ws chosen).2 ≤ examinedAtMost left free := by
  induction left generalizing ws chosen free with
  | zero => exact Nat.zero_le _
  | succ left ih =>
    have hnow := w.candidates_length chosen
    rw [examinedAtMost]
    cases h : w.choose ws (w.candidates chosen) with
    | none =>
      rw [WorkingSet.searches_of_none h]
      dsimp only
      omega
    | some x =>
      obtain ⟨hmem, -, hn, -, -⟩ := WorkingSet.mem_candidates.1 (WorkingSet.choose_mem h).1
      have hfewer := WorkingSet.unchosen_cons_lt hmem hn
      have hrest := ih (ws := ws.apply x.1) (chosen := x.1.entry.n :: chosen) (free := free - 1) (by omega)
      rw [WorkingSet.searches_of_some h]
      dsimp only
      omega

theorem WorkingSet.wf.selection_bounds {w : WorkingSet} (h : w.wf) :
    w.selection.1.length ≤ 4 ∧ w.selection.2 ≤ 756 := by
  obtain ⟨hlen, -, -, hpolicy, -⟩ := h
  have hmoves := hpolicy.movesPerRound_le
  refine ⟨w.selection_bounds.1.trans hmoves, ?_⟩
  by_cases hopen : w.Open
  · have hfree : (w.unchosen []).length ≤ 96 := (List.length_filter_le _ _).trans hlen
    rw [WorkingSet.selection_of_open hopen]
    refine (WorkingSet.searches_examined hfree).trans ?_
    interval_cases w.policy.movesPerRound <;> decide
  · rw [WorkingSet.selection_of_not_open hopen]
    exact Nat.zero_le _

/-- Settles O35. -/
theorem completionPostsAndPublishes : Obligations.CompletionPostsAndPublishes := by
  unfold Obligations.CompletionPostsAndPublishes
  refine ⟨fun s w hheld hwork => ?_, fun s round moves m => ?_, fun w => ?_⟩
  · exact (execCompletion_busy hheld hwork).trans (congrArg Host.Outcome.next (s.complete_eq w))
  · refine ⟨rfl, fun h => ?_, fun h => ?_⟩
    · exact State.post_of_postable (State.postable_iff.2 h)
    · exact State.post_of_not_postable fun hp => h (State.postable_iff.1 hp)
  · intro sum neutral onPhase sq root isOver residual
    have hneutral (k : Nat) : neutralSum w.entries k = neutral k := neutralSum_eq w.entries k
    have hphase (k : Nat) (p : Phase) : phaseSumOn w.entries k p = onPhase k p := phaseSumOn_eq w.entries k p
    have hresidual (h : HeadReport) (p : Phase) : (w.residual h).get p = residual h p := by
      rw [WorkingSet.residual_get, hphase]
      rfl
    refine ⟨?_, fun k => ?_, fun h => WorkingSet.freshHead_eq_some, hresidual, ?_, w.provisional_eq, fun hw => ?_⟩
    · rw [WorkingSet.score_eq]
      simp only [hneutral]
      rfl
    · rw [WorkingSet.segResult_eq, phaseSums, hneutral, hphase, hphase, hphase]
      rfl
    · rw [WorkingSet.mismatch_iff]
      simp only [hresidual]
      rfl
    · obtain ⟨hlen, hread, -, -, hhead⟩ := id hw
      have hsums (k : Nat) (p : Phase) : (onPhase k p).within 96000 := by
        rw [← hphase]
        exact phaseSumOn_within hlen hread k p
      refine ⟨fun k => ?_, hw.score_le, by decide, fun k p => ⟨hsums k p, ?_⟩, fun h p hh => ?_, hw.selection_bounds⟩
      · rw [← hneutral]
        have hsq := hw.normSq_le k
        refine ⟨neutralSum_within hlen hread k, hsq, ?_⟩
        have hroot : isqrt (neutralSum w.entries k).normSq.toNat ≤ 370908 := isqrt_le (by omega)
        exact Nat.div_le_div_right (c := 2) hroot
      · have hsq : sq (onPhase k p) ≤ 2 * (96000 * 96000) := Phasor.normSq_le (hsums k p).1 (hsums k p).2
        exact isqrt_le (by omega)
      · have hcurrents : (h.currents.get p).within 20000 :=
          hhead h (WorkingSet.freshHead_eq_some.1 hh).1 p (mem_phases p)
        have hwithin : (residual h p).within 116000 := Phasor.sub_within hcurrents (hsums 0 p)
        have hsq : sq (residual h p) ≤ 26912000000 := Phasor.normSq_le hwithin.1 hwithin.2
        exact ⟨hwithin, hsq, isqrt_le (by omega)⟩

end Sys2Proof.Machine


/-! PROOFS. The mains' commands as whole next states (06_mains_timing.md): pin changes, qualified edges, losses, internal
ticks, and the waits of the Executor that cycle ticks count. -/

namespace Sys2Proof.Machine

/-! ### Pin changes (R103) -/

/-- Settles O39: what becomes of the candidate depends on the accepted level. -/
theorem pinChangeSetsOrDropsTheCandidate : Obligations.PinChangeSetsOrDropsTheCandidate := by
  unfold Obligations.PinChangeSetsOrDropsTheCandidate
  intro s ph level t q moved
  have hfree (hpin : q.pin ≠ level) (hheld : s.held = false) (candidate : Option Time)
      (hcand : (match q.accepted with
        | some a => if a = level then none else some t
        | none => none) = candidate) : exec (.zcPinChange ph level t) s = .next (moved candidate) := by
    subst hcand
    refine congrArg Host.Outcome.next ((if_neg hpin).trans (if_neg ?_))
    simp [State.at, hheld]
  refine ⟨fun hpin => congrArg Host.Outcome.next (if_pos hpin),
    fun hpin hheld => congrArg Host.Outcome.next ((if_neg hpin).trans (if_pos hheld)),
    fun hpin hheld hacc => hfree hpin hheld none ?_, fun hpin hheld hacc => hfree hpin hheld none ?_,
    fun a hpin hheld hacc hne => hfree hpin hheld (some t) ?_⟩
  · rw [hacc]
  · simp [hacc]
  · simp [hacc, hne]

/-! ### The mains state and its followers (R113, R114) -/

/-- The records once the mains has left VALID: a head in ISSUING with no attempt running goes to SWITCHING (R93, R114). -/
def ceasedRecords (ceases : Prop) [Decidable ceases] : List MoveRecord → List MoveRecord
  | r :: rest => if ceases ∧ r.state = .issuing then r.toSwitching :: rest else r :: rest
  | [] => []

theorem ceasedRecords_of_not {ceases : Prop} [Decidable ceases] (h : ¬ceases) (records : List MoveRecord) :
    ceasedRecords ceases records = records := by
  cases records with
  | nil => rfl
  | cons r rest => exact if_neg fun hc => h hc.1

theorem State.mainsLeftValid_eq (s : State) :
    s.mainsLeftValid =
      { s with queue := { s.queue with records := ceasedRecords (s.running .issue = false) s.queue.records } } := by
  unfold State.mainsLeftValid State.headMove
  cases hrecords : s.queue.records with
  | nil =>
    simp only [List.head?_nil, ceasedRecords]
    rw [← hrecords]
  | cons r rest =>
    simp only [List.head?_cons, ceasedRecords, Bool.and_eq_true, decide_eq_true_eq, Bool.not_eq_true']
    by_cases h : s.running .issue = false ∧ r.state = .issuing
    · rw [if_pos h, if_pos h.symm, State.putHead, hrecords]
      rfl
    · rw [if_neg h, if_neg fun hc => h hc.symm, ← hrecords]

/-- A change of the mains state raises MAINS and is seen by the Executor (R114). -/
theorem State.setMainsState_eq (s : State) (st : MainsState) (good : Nat) :
    s.setMainsState st good =
      { s with
        mtu := { s.mtu with mains := st, good := good }
        ports := if st = s.mtu.mains then s.ports else s.ports.map fun q => q.raise .mains
        queue := { s.queue with
          records := ceasedRecords (s.mtu.mains = .valid ∧ st ≠ .valid ∧ s.running .issue = false) s.queue.records } } := by
  unfold State.setMainsState
  dsimp only
  by_cases hst : st = s.mtu.mains
  · rw [if_pos hst, if_pos hst, ceasedRecords_of_not fun h => h.2.1 (hst.trans h.1)]
  · rw [if_neg hst, if_neg hst]
    by_cases hvalid : s.mtu.mains = .valid
    · have hleft : st ≠ .valid := fun h => hst (h.trans hvalid.symm)
      rw [if_pos hvalid, State.mainsLeftValid_eq]
      simp only [hvalid, true_and, hleft, ne_eq, not_false_eq_true]
      rfl
    · rw [if_neg hvalid, ceasedRecords_of_not fun h => hvalid h.1]
      rfl

/-- The return of a phase ends ABSENT, and MAINS tells it (R113, R114). -/
theorem State.mainsReturn_eq (s : State) :
    s.mainsReturn =
      { s with
        mtu := { s.mtu with
          mains := if s.mtu.mains = .absent then .settling else s.mtu.mains
          good := if s.mtu.mains = .absent then 0 else s.mtu.good }
        ports := if s.mtu.mains = .absent then s.ports.map fun q => q.raise .mains else s.ports } := by
  unfold State.mainsReturn
  by_cases h : s.mtu.mains = .absent
  · rw [if_pos h, State.setMainsState_eq, ceasedRecords_of_not (by simp [h])]
    simp [h]
  · simp [h]

/-! ### Qualified edges (R103 to R105) -/

theorem State.acceptLevel_first {s : State} {p : Phase} (h : (s.mtu.pins.get p).accepted = none) :
    s.acceptLevel p = s.putPin p { s.mtu.pins.get p with accepted := some (s.mtu.pins.get p).pin, candidate := none } := by
  simp only [State.acceptLevel, h]

theorem State.acceptLevel_falling {s : State} {p : Phase} {c : Time} (h : (s.mtu.pins.get p).accepted = some .high)
    (hc : (s.mtu.pins.get p).candidate = some c) :
    s.acceptLevel p = s.putPin p { s.mtu.pins.get p with accepted := some .low, candidate := none } := by
  simp only [State.acceptLevel, h, hc]

theorem State.acceptLevel_rising {s : State} {p : Phase} {c : Time} (h : (s.mtu.pins.get p).accepted = some .low)
    (hc : (s.mtu.pins.get p).candidate = some c) :
    s.acceptLevel p =
      (s.putPin p { s.mtu.pins.get p with accepted := some .high, candidate := none }).risingEdge p c := by
  simp only [State.acceptLevel, h, hc]

theorem State.qualifyReached_first {s : State} {p : Phase} (h : (s.mtu.pins.get p).accepted = none) :
    s.qualifyReached p = true ↔ s.mtu.settings.qualify * 100 ≤ (s.time - (s.mtu.pins.get p).changedAt).toNat := by
  simp only [State.qualifyReached, h]
  exact decide_eq_true_iff

theorem State.qualifyReached_candidate {s : State} {p : Phase} {c : Time} (h : (s.mtu.pins.get p).accepted ≠ none)
    (hc : (s.mtu.pins.get p).candidate = some c) :
    s.qualifyReached p = true ↔ s.mtu.settings.qualify * 100 ≤ (s.time - c).toNat := by
  obtain ⟨level, hlevel⟩ := Option.ne_none_iff_exists'.1 h
  simp only [State.qualifyReached, hlevel, hc]
  exact decide_eq_true_iff

/-- A qualify time that has been reached accepts the level (R103). -/
theorem execQualifyTimeExpiry_reached {s : State} {ph : Phase} {t : Time} (hheld : s.held = false)
    (h : (s.at t).qualifyReached ph = true) : exec (.qualifyTimeExpiry ph t) s = .next ((s.at t).acceptLevel ph) :=
  congrArg Host.Outcome.next (State.event_of_true _ hheld h)

/-- A rising edge without a cycle check: of L2 or L3, or the first of L1 (R105, R109). -/
theorem State.edge_unchecked {s : State} {p : Phase} (h : p ≠ .l1 ∨ s.mtu.prevL1 = none) (stamp : Time) :
    s.edge p stamp =
      { s with
        mtu := { s.mtu with
          stamps := s.mtu.stamps.set p (some stamp)
          mark2 := if p = .l2 then true else if p = .l1 then false else s.mtu.mark2
          mark3 := if p = .l3 then true else if p = .l1 then false else s.mtu.mark3
          prevL1 := if p = .l1 then some stamp else s.mtu.prevL1
          mains := if s.mtu.mains = .absent then .settling else s.mtu.mains
          good := if s.mtu.mains = .absent then 0 else s.mtu.good }
        ports := if s.mtu.mains = .absent then s.ports.map fun q => q.raise .mains else s.ports } := by
  unfold State.edge
  dsimp only
  rw [State.mainsReturn_eq]
  by_cases hp : p = .l1
  · have hprev : s.mtu.prevL1 = none := h.resolve_left fun hne => hne hp
    subst hp
    simp only [if_true, State.cycleCheck, Mtu.stamped, hprev, reduceCtorEq, if_false]
  · simp only [hp, if_false, Mtu.stamped] <;> rfl

/-- Settles O40. -/
theorem qualifiedEdgeStampsItsPhase : Obligations.QualifiedEdgeStampsItsPhase := by
  unfold Obligations.QualifiedEdgeStampsItsPhase
  intro s ph t hheld q limit accept
  refine ⟨fun hacc hlimit => ?_, fun c hacc hcand hlimit => ?_, fun c hacc hcand hlimit hcheck => ?_⟩
  · refine (execQualifyTimeExpiry_reached hheld ((State.qualifyReached_first (s := s.at t) hacc).2 hlimit)).trans ?_
    exact congrArg Host.Outcome.next (State.acceptLevel_first hacc)
  · have haccepted : (s.mtu.pins.get ph).accepted ≠ none := fun h => by cases h.symm.trans hacc
    have hreached := (State.qualifyReached_candidate (s := s.at t) haccepted hcand).2 hlimit
    exact (execQualifyTimeExpiry_reached hheld hreached).trans
      (congrArg Host.Outcome.next (State.acceptLevel_falling (s := s.at t) hacc hcand))
  · intro leaves mtu edge
    have haccepted : (s.mtu.pins.get ph).accepted ≠ none := fun h => by cases h.symm.trans hacc
    have hreached := (State.qualifyReached_candidate (s := s.at t) haccepted hcand).2 hlimit
    refine (execQualifyTimeExpiry_reached hheld hreached).trans (congrArg Host.Outcome.next ?_)
    have hedge : (((s.at t).putPin ph { q with accepted := some .high, candidate := none }).edge ph c) = edge :=
      State.edge_unchecked (s := (s.at t).putPin ph { q with accepted := some .high, candidate := none }) hcheck c
    rw [State.acceptLevel_rising (s := s.at t) hacc hcand, State.risingEdge_eq]
    exact congrArg (fun e : State => if e.mtu.source = some ph then e.cycleTick else e) hedge

/-! ### The cycle check (R109) -/

/-- Two figures differ by at most a limit. -/
theorem dist_le_iff {a b limit : Nat} : dist a b ≤ limit ↔ -(limit : Int) ≤ (a : Int) - b ∧ (a : Int) - b ≤ limit := by
  unfold dist
  omega

theorem spacing_eq_some {mark : Bool} {stamp : Option Time} {old : Time} {d : Nat} :
    spacing mark stamp old = some d ↔ mark = true ∧ stamp.map (fun x => (x - old).toNat) = some d := by
  cases mark <;> simp [spacing, since]

theorem cycleVerdict_period {m : MainsSettings} {period : Nat} (d2 d3 : Option Nat) (h : ¬dist period m.nominal ≤ m.band) :
    cycleVerdict m period d2 d3 = .bad .period :=
  if_pos (Nat.not_le.1 h)

/-- The verdict on a period in the band with both spacings there (R109). -/
theorem cycleVerdict_spaced {m : MainsSettings} {period : Nat} (d2 d3 : Nat) (h : dist period m.nominal ≤ m.band) :
    cycleVerdict m period (some d2) (some d3) =
      if dist (3 * d2) period ≤ 3 * m.tol ∧ dist (3 * d3) (2 * period) ≤ 3 * m.tol then .good
      else if dist (3 * d2) (2 * period) ≤ 3 * m.tol ∧ dist (3 * d3) period ≤ 3 * m.tol then .bad .reversed
      else .bad .spacing :=
  if_neg (Nat.not_lt.2 h)

theorem cycleVerdict_unspaced {m : MainsSettings} {period : Nat} {d2 d3 : Option Nat} (h : dist period m.nominal ≤ m.band)
    (hd : ¬∃ a b, d2 = some a ∧ d3 = some b) : cycleVerdict m period d2 d3 = .bad .spacing := by
  refine (if_neg (Nat.not_lt.2 h)).trans ?_
  cases d2 with
  | none => rfl
  | some a =>
    cases d3 with
    | none => rfl
    | some b => exact absurd ⟨a, b, rfl, rfl⟩ hd

/-- A good verdict on the mains state (R113). -/
theorem State.mainsVerdict_of_good {s : State} (h : s.mtu.mains ≠ .absent) :
    ∃ st good, s.mainsVerdict .good = s.setMainsState st good ∧
      (s.mtu.mains = .settling → good = min 255 (s.mtu.good + 1) ∧
        st = if s.mtu.settings.settle ≤ good then .valid else .settling) ∧
      (s.mtu.mains = .valid → good = s.mtu.good ∧ st = .valid) ∧
      (s.mtu.mains = .disturbed → good = 1 ∧ st = .settling) := by
  cases hm : s.mtu.mains with
  | absent => exact absurd hm h
  | settling => exact ⟨_, _, by simp only [State.mainsVerdict, hm], fun _ => ⟨rfl, rfl⟩, nofun, nofun⟩
  | valid =>
    refine ⟨.valid, s.mtu.good, ?_, nofun, fun _ => ⟨rfl, rfl⟩, nofun⟩
    simp only [State.mainsVerdict, hm]
    rw [State.setMainsState_eq, if_pos hm.symm, ceasedRecords_of_not fun h => h.2.1 rfl, ← hm]
  | disturbed => exact ⟨_, _, by simp only [State.mainsVerdict, hm], nofun, nofun, fun _ => ⟨rfl, rfl⟩⟩

/-- A bad verdict on the mains state (R113). -/
theorem State.mainsVerdict_of_bad {s : State} (h : s.mtu.mains ≠ .absent) (c : FaultCause) :
    s.mainsVerdict (.bad c) = s.setMainsState (if s.mtu.mains = .settling then .settling else .disturbed) 0 := by
  cases hm : s.mtu.mains with
  | absent => exact absurd hm h
  | settling | valid | disturbed =>
    simp only [State.mainsVerdict, hm]
    rfl

/-- The MTU that a cycle check leaves of a verdict's mains state and good count. -/
theorem State.setMainsState_checkedAt (s : State) (st : MainsState) (good : Nat) (c : Time) :
    (s.setMainsState st good).checkedAt c =
      { s with
        mtu := { s.mtu with mains := st, good := good, prevL1 := some c, mark2 := false, mark3 := false }
        ports := if st = s.mtu.mains then s.ports else s.ports.map fun q => q.raise .mains
        queue := { s.queue with
          records := ceasedRecords (s.mtu.mains = .valid ∧ st ≠ .valid ∧ s.running .issue = false) s.queue.records } } := by
  rw [State.setMainsState_eq]
  rfl

/-- The events of an L1 edge that finds a previous stamp: the pin is accepted and the phase stamped, the verdict moves the
mains state, and the tick follows (R104, R105, R109, R117). -/
theorem State.acceptLevel_checked {s : State} {c old : Time} (hacc : s.mtu.pins.l1.accepted = some .low)
    (hcand : s.mtu.pins.l1.candidate = some c) (hprev : s.mtu.prevL1 = some old) (hmains : s.mtu.mains ≠ .absent) :
    let stamped : State := { s with mtu := { s.mtu with
      pins := s.mtu.pins.set .l1 { s.mtu.pins.l1 with accepted := some .high, candidate := none }
      stamps := s.mtu.stamps.set .l1 (some c) } }
    (s.mtu.judge c old = .good → s.acceptLevel .l1 =
      (((stamped.figured ⟨since c old, (spacing s.mtu.mark2 s.mtu.stamps.l2 old).getD 0,
        (spacing s.mtu.mark3 s.mtu.stamps.l3 old).getD 0, centihertz (since c old),
        s.engine.round⟩).mainsVerdict .good).checkedAt c).cycleTick) ∧
    (∀ cause, s.mtu.judge c old = .bad cause → s.acceptLevel .l1 =
      (((stamped.recordFault cause).mainsVerdict (.bad cause)).checkedAt c).cycleTick) := by
  intro stamped
  have hreturn : stamped.mainsReturn = stamped := if_neg hmains
  have hedge : (s.putPin .l1 { s.mtu.pins.l1 with accepted := some .high, candidate := none }).edge .l1 c =
      stamped.cycleCheck c := congrArg (fun x : State => x.cycleCheck c) hreturn
  have htick (e : State) (he : stamped.cycleCheck c = e) (hstamp : e.mtu.stamps.l1 = some c) :
      s.acceptLevel .l1 = e.cycleTick := by
    rw [State.acceptLevel_rising (p := .l1) hacc hcand, State.risingEdge_eq]
    refine (congrArg (fun x : State => if x.mtu.source = some .l1 then x.cycleTick else x) (hedge.trans he)).trans ?_
    exact if_pos (by simp [Mtu.source, phases, Mtu.phasePresent, PerPhase.get, hstamp])
  have hstamps (x : State) (v : CycleVerdict) (hx : x.mtu.stamps.l1 = some c) :
      ((x.mainsVerdict v).checkedAt c).mtu.stamps.l1 = some c := by
    have hv := State.mainsVerdict_stamps x v
    rw [← hx, ← hv]
    rfl
  obtain ⟨hnone, -⟩ | ⟨old', hold, hcases⟩ := stamped.cycleCheck_cases c
  · cases hprev.symm.trans hnone
  · obtain rfl : old = old' := Option.some.inj (hprev.symm.trans hold)
    obtain ⟨hjudge, he⟩ | ⟨d, hjudge, he⟩ := hcases
    · have hgood : s.mtu.judge c old = .good := hjudge
      exact ⟨fun _ => htick _ he (hstamps _ _ rfl), fun cause hbad => by cases hgood.symm.trans hbad⟩
    · have hbad : s.mtu.judge c old = .bad d := hjudge
      refine ⟨fun hgood => (by cases hgood.symm.trans hbad), fun cause hcause => ?_⟩
      cases hbad.symm.trans hcause
      exact htick _ he (hstamps _ _ rfl)

/-- What a verdict at time t leaves of the whole state, `m` being the MTU it judges. -/
theorem State.checked_frame {s : State} {t c : Time} {m : Mtu} (st : MainsState) (good : Nat)
    (hm : m.mains = s.mtu.mains) :
    let e := (({ s with time := t, mtu := m } : State).setMainsState st good).checkedAt c
    e.cycleTick.mtu = { m with mains := st, good := good, prevL1 := some c, mark2 := false, mark3 := false } ∧
      e = { s with time := t, mtu := e.cycleTick.mtu, queue := e.queue, ports := e.ports } ∧
      (e.ports = if e.cycleTick.mtu.mains = s.mtu.mains then s.ports else s.ports.map fun q => q.raise .mains) ∧
      e.queue = { s.queue with records := match s.queue.records with
        | r :: rest =>
          if s.mtu.mains = .valid ∧ e.cycleTick.mtu.mains ≠ .valid ∧ s.running .issue = false ∧ r.state = .issuing then
            r.toSwitching :: rest
          else r :: rest
        | [] => [] } := by
  intro e
  have he : e = _ := State.setMainsState_checkedAt { s with time := t, mtu := m } st good c
  have hmtu : e.cycleTick.mtu = { m with mains := st, good := good, prevL1 := some c, mark2 := false, mark3 := false } := by
    rw [he]
    simp
  rw [hmtu, he]
  refine ⟨rfl, rfl, by simp only [hm], ?_⟩
  simp only [hm]
  cases s.queue.records with
  | nil => rfl
  | cons r rest => simp only [ceasedRecords, and_assoc] <;> rfl

/-- The verdict of R109's table on an L1 edge, from the figures in the statement's own terms. -/
theorem Mtu.judge_period {m : Mtu} {c old : Time} (h : ¬dist (since c old) m.settings.nominal ≤ m.settings.band) :
    m.judge c old = .bad .period :=
  cycleVerdict_period _ _ h

theorem Mtu.judge_spaced {m : Mtu} {c old : Time} {d2 d3 : Nat} (h : dist (since c old) m.settings.nominal ≤ m.settings.band)
    (h2 : spacing m.mark2 m.stamps.l2 old = some d2) (h3 : spacing m.mark3 m.stamps.l3 old = some d3) :
    m.judge c old =
      if dist (3 * d2) (since c old) ≤ 3 * m.settings.tol ∧ dist (3 * d3) (2 * since c old) ≤ 3 * m.settings.tol then .good
      else if dist (3 * d2) (2 * since c old) ≤ 3 * m.settings.tol ∧ dist (3 * d3) (since c old) ≤ 3 * m.settings.tol
      then .bad .reversed else .bad .spacing := by
  rw [Mtu.judge, h2, h3]
  exact cycleVerdict_spaced d2 d3 h

theorem MainsSettings.nominal_cast (m : MainsSettings) :
    (m.nominal : Int) = if m.frequency = 60 then 16667 else 20000 := by
  unfold MainsSettings.nominal
  split <;> rfl

/-- Settles O41: the verdict by R109's table, then what it leaves. -/
theorem cycleCheckJudgesThePeriod : Obligations.CycleCheckJudgesThePeriod := by
  unfold Obligations.CycleCheckJudgesThePeriod
  intro s t c old hheld hmains hacc hcand hprev hlimit period nominal near tol inBand distances good swapped
  have hband : dist (since c old) s.mtu.settings.nominal ≤ s.mtu.settings.band ↔ inBand := by
    rw [dist_le_iff, MainsSettings.nominal_cast]
    rfl
  have hnear (a b : Nat) : dist a b ≤ 3 * s.mtu.settings.tol ↔ near a b tol := dist_le_iff
  have hgood (d2 d3 : Nat) : dist (3 * d2) (since c old) ≤ 3 * s.mtu.settings.tol ∧
      dist (3 * d3) (2 * since c old) ≤ 3 * s.mtu.settings.tol ↔ good d2 d3 := by
    rw [hnear, hnear]
    push_cast
    rfl
  have hswapped (d2 d3 : Nat) : dist (3 * d2) (2 * since c old) ≤ 3 * s.mtu.settings.tol ∧
      dist (3 * d3) (since c old) ≤ 3 * s.mtu.settings.tol ↔ swapped d2 d3 := by
    rw [hnear, hnear]
    push_cast
    rfl
  have hdistances (d2 d3 : Nat) : distances d2 d3 ↔
      spacing s.mtu.mark2 s.mtu.stamps.l2 old = some d2 ∧ spacing s.mtu.mark3 s.mtu.stamps.l3 old = some d3 := by
    rw [spacing_eq_some, spacing_eq_some]
    exact ⟨fun ⟨h2, h3, hd2, hd3⟩ => ⟨⟨h2, hd2⟩, h3, hd3⟩, fun ⟨⟨h2, hd2⟩, h3, hd3⟩ => ⟨h2, h3, hd2, hd3⟩⟩
  have hjudgeGood (d2 d3 : Nat) (hb : inBand) (hd : distances d2 d3) (hg : good d2 d3) : s.mtu.judge c old = .good := by
    obtain ⟨h2, h3⟩ := (hdistances d2 d3).1 hd
    rw [Mtu.judge_spaced (hband.2 hb) h2 h3, if_pos ((hgood d2 d3).2 hg)]
  have hjudgeBad (cause : FaultCause) (hcause : (¬inBand ∧ cause = .period) ∨
      (∃ d2 d3, inBand ∧ distances d2 d3 ∧ ¬good d2 d3 ∧ swapped d2 d3 ∧ cause = .reversed) ∨
      (∃ d2 d3, inBand ∧ distances d2 d3 ∧ ¬good d2 d3 ∧ ¬swapped d2 d3 ∧ cause = .spacing) ∨
      (inBand ∧ (¬∃ d2 d3, distances d2 d3) ∧ cause = .spacing)) : s.mtu.judge c old = .bad cause := by
    obtain ⟨hb, rfl⟩ | ⟨d2, d3, hb, hd, hg, hs, rfl⟩ | ⟨d2, d3, hb, hd, hg, hs, rfl⟩ | ⟨hb, hd, rfl⟩ := hcause
    · exact Mtu.judge_period fun h => hb (hband.1 h)
    · obtain ⟨h2, h3⟩ := (hdistances d2 d3).1 hd
      rw [Mtu.judge_spaced (hband.2 hb) h2 h3, if_neg fun h => hg ((hgood d2 d3).1 h), if_pos ((hswapped d2 d3).2 hs)]
    · obtain ⟨h2, h3⟩ := (hdistances d2 d3).1 hd
      rw [Mtu.judge_spaced (hband.2 hb) h2 h3, if_neg fun h => hg ((hgood d2 d3).1 h),
        if_neg fun h => hs ((hswapped d2 d3).1 h)]
    · exact cycleVerdict_unspaced (hband.2 hb) fun ⟨a, b, h2, h3⟩ => hd ⟨a, b, (hdistances a b).2 ⟨h2, h3⟩⟩
  have haccepted : s.mtu.pins.l1.accepted ≠ none := fun h => by cases h.symm.trans hacc
  have hreached := (State.qualifyReached_candidate (s := s.at t) (p := .l1) haccepted hcand).2 hlimit
  have hexec := execQualifyTimeExpiry_reached hheld hreached
  obtain ⟨heventGood, heventBad⟩ := State.acceptLevel_checked (s := s.at t) hacc hcand hprev hmains
  let pinned : Mtu := { s.mtu with
    pins := s.mtu.pins.set .l1 { s.mtu.pins.l1 with accepted := some .high, candidate := none }
    stamps := s.mtu.stamps.set .l1 (some c) }
  cases hjudge : s.mtu.judge c old with
  | good =>
    let figures : Figures := ⟨since c old, (spacing s.mtu.mark2 s.mtu.stamps.l2 old).getD 0,
      (spacing s.mtu.mark3 s.mtu.stamps.l3 old).getD 0, centihertz (since c old), s.engine.round⟩
    obtain ⟨st, count, hverdict, hsettling, hvalid, hdisturbed⟩ := State.mainsVerdict_of_good
      (s := { s with time := t, mtu := { pinned with figures := some figures } }) hmains
    obtain ⟨hmtu, hstate, hports, hqueue⟩ := State.checked_frame (s := s) (t := t) (c := c)
      (m := { pinned with figures := some figures }) st count rfl
    refine ⟨_, _, hexec.trans (congrArg Host.Outcome.next ((heventGood hjudge).trans
      (congrArg (fun x : State => (x.checkedAt c).cycleTick) hverdict))), rfl, hstate, hports, hqueue, ?_⟩
    rw [hmtu]
    refine ⟨rfl, rfl, rfl, rfl, rfl, rfl, rfl, fun d2 d3 hb hd hg => ?_, fun cause hcause => ?_⟩
    · obtain ⟨h2, h3⟩ := (hdistances d2 d3).1 hd
      refine ⟨rfl, ?_, hsettling, hvalid, hdisturbed⟩
      simp only [figures, h2, h3, Option.getD_some]
      rfl
    · cases hjudge.symm.trans (hjudgeBad cause hcause)
  | bad fault =>
    have hverdict := State.mainsVerdict_of_bad
      (s := { s with time := t, mtu := { pinned with lastFault := some ⟨fault, s.engine.round, t⟩ } }) hmains fault
    obtain ⟨hmtu, hstate, hports, hqueue⟩ := State.checked_frame (s := s) (t := t) (c := c)
      (m := { pinned with lastFault := some ⟨fault, s.engine.round, t⟩ })
      (if s.mtu.mains = .settling then .settling else .disturbed) 0 rfl
    refine ⟨_, _, hexec.trans (congrArg Host.Outcome.next ((heventBad fault hjudge).trans
      (congrArg (fun x : State => (x.checkedAt c).cycleTick) hverdict))), rfl, hstate, hports, hqueue, ?_⟩
    rw [hmtu]
    refine ⟨rfl, rfl, rfl, rfl, rfl, rfl, rfl, fun d2 d3 hb hd hg => ?_, fun cause hcause => ?_⟩
    · cases hjudge.symm.trans (hjudgeGood d2 d3 hb hd hg)
    · cases hjudge.symm.trans (hjudgeBad cause hcause)
      exact ⟨rfl, rfl, rfl, rfl⟩

/-! ### Losses (R106, R112, R113) -/

theorem Mtu.source_isNone_iff (m : Mtu) :
    m.source.isNone = true ↔ m.stamps.l1 = none ∧ m.stamps.l2 = none ∧ m.stamps.l3 = none := by
  rw [Option.isNone_iff_eq_none, Mtu.source_eq_none_iff]
  exact ⟨fun h => ⟨h .l1, h .l2, h .l3⟩, fun ⟨h1, h2, h3⟩ p => by cases p <;> assumption⟩

/-- A loss on a mains that is not ABSENT (R113). -/
theorem State.mainsLoss_eq {s : State} (h : s.mtu.mains ≠ .absent) :
    s.mainsLoss = s.setMainsState
      (if s.mtu.mains = .valid then .disturbed
        else if s.mtu.stamps.l1 = none ∧ s.mtu.stamps.l2 = none ∧ s.mtu.stamps.l3 = none then .absent
        else s.mtu.mains) 0 := by
  simp only [← Mtu.source_isNone_iff]
  cases hm : s.mtu.mains with
  | absent => exact absurd hm h
  | settling | valid | disturbed =>
    simp only [State.mainsLoss, hm, reduceCtorEq, if_false, if_true]

theorem State.lossReached_iff {s : State} {p : Phase} {st : Time} (h : s.mtu.stamps.get p = some st) :
    s.lossReached p = true ↔ 3 * s.mtu.settings.nominal ≤ (s.time - st).toNat := by
  simp only [State.lossReached, h]
  exact decide_eq_true_iff

/-- The mains state that a loss leaves, `stamps` being those that are still held (R113). -/
def mainsAfterLoss (before : MainsState) (stamps : PerPhase (Option Time)) : MainsState :=
  if before = .valid then .disturbed
  else if stamps.l1 = none ∧ stamps.l2 = none ∧ stamps.l3 = none then .absent else before

theorem mainsAfterLoss_ne_valid (before : MainsState) (stamps : PerPhase (Option Time)) :
    mainsAfterLoss before stamps ≠ .valid := by
  unfold mainsAfterLoss
  split_ifs with hvalid
  · nofun
  · nofun
  · exact hvalid

/-- The loss of a phase as a whole next state (R106, R112, R113, R114, R118). -/
theorem State.losePhase_eq {s : State} (h : s.mtu.mains ≠ .absent) (p : Phase) :
    s.losePhase p =
      { s with
        mtu := { s.mtu.lose p with
          lastFault := some ⟨.loss p, s.engine.round, s.time⟩
          mains := mainsAfterLoss s.mtu.mains (s.mtu.stamps.set p none)
          good := 0
          lastInternal := if (s.mtu.stamps.set p none).l1 = none ∧ (s.mtu.stamps.set p none).l2 = none ∧
            (s.mtu.stamps.set p none).l3 = none then s.time else s.mtu.lastInternal }
        ports := if mainsAfterLoss s.mtu.mains (s.mtu.stamps.set p none) = s.mtu.mains then s.ports
          else s.ports.map fun q => q.raise .mains
        queue := { s.queue with
          records := ceasedRecords (s.mtu.mains = .valid ∧ s.running .issue = false) s.queue.records } } := by
  let lost : State := ({ s with mtu := s.mtu.lose p } : State).recordFault (.loss p)
  have hloss : lost.mainsLoss = lost.setMainsState (mainsAfterLoss s.mtu.mains (s.mtu.stamps.set p none)) 0 :=
    State.mainsLoss_eq h
  have hceases : ceasedRecords (s.mtu.mains = .valid ∧ mainsAfterLoss s.mtu.mains (s.mtu.stamps.set p none) ≠ .valid ∧
      lost.running .issue = false) s.queue.records =
        ceasedRecords (s.mtu.mains = .valid ∧ s.running .issue = false) s.queue.records := by
    simp only [mainsAfterLoss_ne_valid, ne_eq, not_false_eq_true, true_and]
    rfl
  have hsource : lost.mainsLoss.mtu.source.isNone = true ↔ (s.mtu.stamps.set p none).l1 = none ∧
      (s.mtu.stamps.set p none).l2 = none ∧ (s.mtu.stamps.set p none).l3 = none := by
    rw [Mtu.source_isNone_iff, hloss, State.setMainsState_mtu]
    rfl
  have hphase : s.losePhase p = if lost.mainsLoss.mtu.source.isNone = true
      then { lost.mainsLoss with mtu := { lost.mainsLoss.mtu with lastInternal := lost.mainsLoss.time } }
      else lost.mainsLoss := rfl
  have hstate : lost.mainsLoss = _ := hloss.trans (State.setMainsState_eq ..)
  rw [hphase, ← hceases]
  by_cases hlast : (s.mtu.stamps.set p none).l1 = none ∧ (s.mtu.stamps.set p none).l2 = none ∧
      (s.mtu.stamps.set p none).l3 = none
  · rw [if_pos (hsource.2 hlast), if_pos hlast, hstate]
    rfl
  · rw [if_neg fun h => hlast (hsource.1 h), if_neg hlast, hstate]
    rfl

/-- Settles O42: the loss changes the mains state as R113's table says, and the rest follows that state. -/
theorem lossOfAPhaseDisturbsTheMains : Obligations.LossOfAPhaseDisturbsTheMains := by
  unfold Obligations.LossOfAPhaseDisturbsTheMains
  intro s ph t st hheld hstamp hlimit hmains stamps last mains ceases
  have hreached : (s.at t).lossReached ph = true := (State.lossReached_iff (s := s.at t) hstamp).2 hlimit
  have hexec : exec (.lossExpiry ph t) s = .next ((s.at t).losePhase ph) :=
    congrArg Host.Outcome.next (State.event_of_true _ hheld hreached)
  rw [hexec, State.losePhase_eq (s := s.at t) hmains]
  rfl

/-! ### Cycle ticks (R61, R80, R118, R146, R147) -/

theorem State.sweepCandidate_isNone {s : State} :
    s.sweepCandidate.isNone = true ↔ ¬∃ n c, s.consumer? n = some c ∧ s.arb.pointer ≤ n ∧ c.recheck = false ∧
      (c.health ≤ 119 ∨ s.arb.sweepCount = 0) := by
  have hsilent (c : Consumer) : healthLevel c.health ≠ .silent ↔ c.health ≤ 119 := by
    unfold healthLevel
    split_ifs <;> simp <;> omega
  simp only [State.sweepCandidate, Option.isNone_iff_eq_none, List.find?_eq_none, Prod.forall, State.mem_present,
    State.qualifies, Bool.and_eq_true, decide_eq_true_eq, Bool.not_eq_true', Bool.or_eq_true, bne_iff_ne, hsilent,
    beq_iff_eq, not_exists, not_and]

/-- What a cycle tick does but for the end of a sweep (R61, R80). -/
def State.counted (s : State) : State :=
  { s with
    engine := s.engine.tick s.policy.active.roundPeriod
    queue := { s.queue with records := s.queue.records.map MoveRecord.tick } }

theorem State.cycleTick_eq (s : State) : s.cycleTick = s.counted.sweepEnd := rfl

theorem Engine.tick_eq (e : Engine) (period : Nat) :
    e.tick period = { e with
      timer := if period ≤ e.timer + 1 then 0 else e.timer + 1
      expiryDue := if period ≤ e.timer + 1 then e.expiryDue || e.work.isNone else e.expiryDue } := by
  unfold Engine.tick
  split <;> rfl

/-- Settles O43. -/
theorem cycleTickCountsTimerAndWaits : Obligations.CycleTickCountsTimerAndWaits := by
  unfold Obligations.CycleTickCountsTimerAndWaits
  intro s t hheld hsource hlimit expires left ticked
  have hreached : (s.at t).internalReached = true := by
    refine Bool.and_eq_true_iff.2 ⟨Option.isNone_iff_eq_none.2 hsource, decide_eq_true ?_⟩
    exact hlimit
  have hexec : exec (.internalTick t) s = .next ((s.at t).tickInternal) :=
    congrArg Host.Outcome.next (State.event_of_true _ hheld hreached)
  have hcounted : ({ s with time := t, mtu := { s.mtu with lastInternal := t } } : State).counted = ticked s.arb := by
    rw [State.counted, Engine.tick_eq]
    rfl
  have hticked : (s.at t).tickInternal = (ticked s.arb).sweepEnd := congrArg State.sweepEnd hcounted
  have hleft : (ticked s.arb).sweepCandidate.isNone = true ↔ ¬left := State.sweepCandidate_isNone
  refine ⟨fun h => ?_, fun hnone hrun => ?_⟩
  · refine hexec.trans (congrArg Host.Outcome.next (hticked.trans (if_neg ?_)))
    rw [Bool.and_eq_true, hleft, Bool.not_eq_true']
    rintro ⟨hnone, hrun⟩
    obtain h | h := h
    · exact hnone h
    · cases h.symm.trans hrun
  · refine hexec.trans (congrArg Host.Outcome.next (hticked.trans (if_pos ?_)))
    rw [Bool.and_eq_true, hleft, Bool.not_eq_true']
    exact ⟨hnone, hrun⟩

/-! ### The Executor's waits (R93, R94, R97) -/

theorem State.headEnded_of_cons {s : State} {r : MoveRecord} {rest : List MoveRecord} (hr : s.queue.records = r :: rest)
    (hended : r.waitEnded = true) : s.headEnded r.state = some r := by
  simp [State.headEnded, State.headMove, hr, hended]

theorem State.putHead_of_cons {s : State} {r : MoveRecord} {rest : List MoveRecord} (hr : s.queue.records = r :: rest)
    (x : MoveRecord) : s.putHead x = { s with queue := { s.queue with records := x :: rest } } := by
  rw [State.putHead, hr]
  rfl

/-- Settles O44. -/
theorem attemptWaitEndMovesTheStageOn : Obligations.AttemptWaitEndMovesTheStageOn := by
  unfold Obligations.AttemptWaitEndMovesTheStageOn
  intro s r rest hheld hr hended head due
  have hhead := State.headEnded_of_cons hr hended
  have hput (x : MoveRecord) : s.putHead x = head x := State.putHead_of_cons hr x
  have hrepeat (hst : r.state = .issuing) : exec .repeatDue s = .next (s.repeatOrSwitch r) := by
    rw [hst] at hhead
    refine congrArg Host.Outcome.next ?_
    simp only [hhead]
    exact State.event_of_true _ hheld rfl
  refine ⟨fun hst hvalid => ?_, fun hst hvalid => ?_, fun hst => ?_, fun hst => ?_⟩
  · have hv : s.mainsValid = true := beq_iff_eq.2 hvalid
    rw [hrepeat hst, State.repeatOrSwitch, if_pos hv, hput]
    rfl
  · have hv : ¬s.mainsValid = true := fun h => hvalid (beq_iff_eq.1 h)
    rw [hrepeat hst, State.repeatOrSwitch, if_neg hv, hput]
    rfl
  · rw [hst] at hhead
    refine congrArg Host.Outcome.next ?_
    simp only [hhead]
    exact (State.event_of_true _ hheld rfl).trans (hput _)
  · rw [hst] at hhead
    refine congrArg Host.Outcome.next ?_
    simp only [hhead]
    exact (State.event_of_true _ hheld rfl).trans (hput _)

end Sys2Proof.Machine


/-! PROOFS. SET MAINS (section 6.7): the settings are stored, and the events that they make due are taken in the same event,
each as its own command takes it. -/

namespace Sys2Proof.Machine

/-! ### What the mains' events leave alone -/

/-- The state with everything cleared that an event of the mains may change. -/
def State.apartFromMains (s : State) : State :=
  { s with
    mtu := State.reset.mtu
    engine := { s.engine with timer := 0, expiryDue := false }
    queue := { s.queue with records := [] }
    arb := { s.arb with sweepCount := 0, pointer := 0 }
    ports := State.reset.ports
    freeCount := 0 }

theorem State.eq_of_apartFromMains {s u : State} (h : u.apartFromMains = s.apartFromMains) :
    u = { s with
      mtu := u.mtu
      engine := { s.engine with timer := u.engine.timer, expiryDue := u.engine.expiryDue }
      queue := { s.queue with records := u.queue.records }
      arb := { s.arb with sweepCount := u.arb.sweepCount, pointer := u.arb.pointer }
      ports := u.ports
      freeCount := u.freeCount } :=
  congrArg (fun x : State => { x with
    mtu := u.mtu
    engine := { x.engine with timer := u.engine.timer, expiryDue := u.engine.expiryDue }
    queue := { x.queue with records := u.queue.records }
    arb := { x.arb with sweepCount := u.arb.sweepCount, pointer := u.arb.pointer }
    ports := u.ports
    freeCount := u.freeCount }) h

theorem State.cycleTick_apart (s : State) : s.cycleTick.apartFromMains = s.apartFromMains := by
  have hsweep (u : State) : u.sweepEnd.apartFromMains = u.apartFromMains := by
    unfold State.sweepEnd
    split <;> rfl
  rw [State.cycleTick_eq, hsweep, State.counted, Engine.tick_eq]
  rfl

theorem State.setMainsState_apart (s : State) (st : MainsState) (good : Nat) :
    (s.setMainsState st good).apartFromMains = s.apartFromMains := by
  rw [State.setMainsState_eq]
  rfl

theorem State.mainsVerdict_apart (s : State) (v : CycleVerdict) :
    (s.mainsVerdict v).apartFromMains = s.apartFromMains := by
  unfold State.mainsVerdict
  split <;> first | exact State.setMainsState_apart .. | rfl

theorem State.edge_apart (s : State) (p : Phase) (c : Time) : (s.edge p c).apartFromMains = s.apartFromMains := by
  have hreturn : ({ s with mtu := s.mtu.stamped p c } : State).mainsReturn.apartFromMains = s.apartFromMains := by
    rw [State.mainsReturn_eq]
    rfl
  unfold State.edge
  dsimp only
  split
  · rw [← hreturn]
    obtain ⟨-, he⟩ | ⟨old, -, ⟨-, he⟩ | ⟨d, -, he⟩⟩ :=
      ({ s with mtu := s.mtu.stamped p c } : State).mainsReturn.cycleCheck_cases c <;> rw [he]
    · rfl
    · exact State.mainsVerdict_apart _ _
    · exact State.mainsVerdict_apart _ _
  · exact hreturn

theorem State.acceptLevel_apart (s : State) (p : Phase) : (s.acceptLevel p).apartFromMains = s.apartFromMains := by
  obtain he | ⟨level, he, -⟩ | ⟨c, -, -, he⟩ := s.acceptLevel_cases p <;> rw [he]
  · rfl
  · rw [State.risingEdge_eq]
    split
    · rw [State.cycleTick_apart, State.edge_apart]
      rfl
    · rw [State.edge_apart]
      rfl

theorem State.losePhase_apart (s : State) (p : Phase) : (s.losePhase p).apartFromMains = s.apartFromMains := by
  have hloss : (({ s with mtu := s.mtu.lose p } : State).recordFault (.loss p)).mainsLoss.apartFromMains =
      s.apartFromMains := by
    unfold State.mainsLoss
    dsimp only
    split
    · exact State.setMainsState_apart ..
    · exact State.setMainsState_apart ..
    · exact State.setMainsState_apart ..
    · rfl
  rw [← hloss]
  unfold State.losePhase
  dsimp only
  split <;> rfl

theorem State.takeDue_apart (s : State) (d : MainsDue) : (s.takeDue d).apartFromMains = s.apartFromMains := by
  unfold State.takeDue
  split
  · cases d with
    | accept p => exact s.acceptLevel_apart p
    | loss p => exact s.losePhase_apart p
    | tick => exact State.cycleTick_apart _
  · rfl

/-! ### What the mains' events do to the pins, the stamps and the settings -/

/-- The qualifier once its level has been accepted (R103). -/
def Qualifier.taken (q : Qualifier) : Qualifier :=
  { q with
    accepted := some (match q.accepted with
      | none => q.pin
      | some .low => .high
      | some .high => .low)
    candidate := none }

/-- The stamps that an acceptance leaves: a rising edge stamps its phase with the candidate (R104). -/
def Qualifier.stampedBy (q : Qualifier) (p : Phase) (stamps : PerPhase (Option Time)) : PerPhase (Option Time) :=
  match q.accepted, q.candidate with
  | some .low, some c => stamps.set p (some c)
  | _, _ => stamps

theorem State.cycleCheck_mtu (s : State) (c : Time) :
    (s.cycleCheck c).mtu.stamps = s.mtu.stamps ∧ (s.cycleCheck c).mtu.settings = s.mtu.settings := by
  obtain ⟨-, he⟩ | ⟨old, -, ⟨-, he⟩ | ⟨d, -, he⟩⟩ := s.cycleCheck_cases c <;> rw [he]
  · exact ⟨rfl, rfl⟩
  all_goals
    simp only [State.checkedAt]
    obtain ⟨st, good, hm⟩ := State.mainsVerdict_mtu _ _
    rw [hm]
    exact ⟨rfl, rfl⟩

theorem State.edge_mtu (s : State) (p : Phase) (c : Time) :
    (s.edge p c).mtu.stamps = s.mtu.stamps.set p (some c) ∧ (s.edge p c).mtu.settings = s.mtu.settings := by
  have hreturn : ({ s with mtu := s.mtu.stamped p c } : State).mainsReturn.mtu.stamps = s.mtu.stamps.set p (some c) ∧
      ({ s with mtu := s.mtu.stamped p c } : State).mainsReturn.mtu.settings = s.mtu.settings := by
    rw [State.mainsReturn_mtu]
    exact ⟨rfl, rfl⟩
  unfold State.edge
  dsimp only
  split
  · rw [(State.cycleCheck_mtu _ c).1, (State.cycleCheck_mtu _ c).2]
    exact hreturn
  · exact hreturn

/-- An acceptance that has come due (R103, R104). -/
theorem State.acceptLevel_mtu {s : State} {p : Phase} (h : s.qualifyReached p = true) :
    (s.acceptLevel p).mtu.pins = s.mtu.pins.set p (s.mtu.pins.get p).taken ∧
      (s.acceptLevel p).mtu.stamps = (s.mtu.pins.get p).stampedBy p s.mtu.stamps ∧
      (s.acceptLevel p).mtu.settings = s.mtu.settings := by
  cases hacc : (s.mtu.pins.get p).accepted with
  | none =>
    rw [State.acceptLevel_first hacc]
    simp only [State.putPin, Qualifier.taken, Qualifier.stampedBy, hacc, and_self]
  | some level =>
    cases hcand : (s.mtu.pins.get p).candidate with
    | none => simp [State.qualifyReached, hacc, hcand] at h
    | some c =>
      cases level with
      | high =>
        rw [State.acceptLevel_falling hacc hcand]
        simp only [State.putPin, Qualifier.taken, Qualifier.stampedBy, hacc, hcand, and_self]
      | low =>
        rw [State.acceptLevel_rising hacc hcand, State.risingEdge_mtu, State.edge_pins]
        obtain ⟨hstamps, hsettings⟩ :=
          (s.putPin p { s.mtu.pins.get p with accepted := some .high, candidate := none }).edge_mtu p c
        rw [hstamps, hsettings]
        simp only [State.putPin, Qualifier.taken, Qualifier.stampedBy, hacc, hcand, and_self]

theorem State.losePhase_mtu (s : State) (p : Phase) :
    (s.losePhase p).mtu.pins = s.mtu.pins ∧ (s.losePhase p).mtu.stamps = s.mtu.stamps.set p none ∧
      (s.losePhase p).mtu.settings = s.mtu.settings := by
  obtain ⟨st, good, hm⟩ := (({ s with mtu := s.mtu.lose p } : State).recordFault (.loss p)).mainsLoss_mtu
  unfold State.losePhase
  dsimp only
  split <;> rw [hm] <;> exact ⟨rfl, rfl, rfl⟩

theorem State.tickInternal_mtu (s : State) :
    s.tickInternal.mtu.pins = s.mtu.pins ∧ s.tickInternal.mtu.stamps = s.mtu.stamps ∧
      s.tickInternal.mtu.settings = s.mtu.settings := by
  simp [State.tickInternal]

theorem State.takeDue_accept {s : State} {p : Phase} (h : s.qualifyReached p = true) :
    s.takeDue (.accept p) = s.acceptLevel p := if_pos h

theorem State.takeDue_loss {s : State} {p : Phase} (h : s.lossReached p = true) : s.takeDue (.loss p) = s.losePhase p :=
  if_pos h

theorem State.takeDue_tick {s : State} (h : s.internalReached = true) : s.takeDue .tick = s.tickInternal := if_pos h

theorem State.takeDue_of_not_due {s : State} {d : MainsDue} (h : ¬s.mainsDue d = true) : s.takeDue d = s :=
  if_neg h

theorem State.takeDue_settings (s : State) (d : MainsDue) : (s.takeDue d).mtu.settings = s.mtu.settings := by
  by_cases h : s.mainsDue d = true
  · cases d with
    | accept p => rw [State.takeDue_accept h, (State.acceptLevel_mtu h).2.2]
    | loss p => rw [State.takeDue_loss h, (s.losePhase_mtu p).2.2]
    | tick => rw [State.takeDue_tick h, s.tickInternal_mtu.2.2]
  · rw [State.takeDue_of_not_due h]

/-- Only its own acceptance changes a qualifier (R103). -/
theorem State.takeDue_pin {s : State} {d : MainsDue} {p : Phase} (h : d ≠ .accept p) :
    (s.takeDue d).mtu.pins.get p = s.mtu.pins.get p := by
  by_cases hdue : s.mainsDue d = true
  · cases d with
    | accept q =>
      have hne : p ≠ q := fun hpq => h (hpq ▸ rfl)
      rw [State.takeDue_accept hdue, (State.acceptLevel_mtu hdue).1, PerPhase.get_set, if_neg hne]
    | loss q => rw [State.takeDue_loss hdue, (s.losePhase_mtu q).1]
    | tick => rw [State.takeDue_tick hdue, s.tickInternal_mtu.1]
  · rw [State.takeDue_of_not_due hdue]

theorem State.takeDue_accept_pin {s : State} {p : Phase} (h : s.qualifyReached p = true) :
    (s.takeDue (.accept p)).mtu.pins.get p = (s.mtu.pins.get p).taken := by
  rw [State.takeDue_accept h, (State.acceptLevel_mtu h).1, PerPhase.get_set, if_pos rfl]

/-- Only its own acceptance and its own loss change a stamp (R104, R106). -/
theorem State.takeDue_stamp {s : State} {d : MainsDue} {p : Phase} (ha : d ≠ .accept p) (hl : d ≠ .loss p) :
    (s.takeDue d).mtu.stamps.get p = s.mtu.stamps.get p := by
  by_cases hdue : s.mainsDue d = true
  · cases d with
    | accept q =>
      have hne : p ≠ q := fun hpq => ha (hpq ▸ rfl)
      rw [State.takeDue_accept hdue, (State.acceptLevel_mtu hdue).2.1, Qualifier.stampedBy]
      split
      · rw [PerPhase.get_set, if_neg hne]
      · rfl
    | loss q =>
      have hne : p ≠ q := fun hpq => hl (hpq ▸ rfl)
      rw [State.takeDue_loss hdue, (s.losePhase_mtu q).2.1, PerPhase.get_set, if_neg hne]
    | tick => rw [State.takeDue_tick hdue, s.tickInternal_mtu.2.1]
  · rw [State.takeDue_of_not_due hdue]

theorem State.takeDue_loss_stamp {s : State} {p : Phase} (h : s.lossReached p = true) :
    (s.takeDue (.loss p)).mtu.stamps.get p = none := by
  rw [State.takeDue_loss h, (s.losePhase_mtu p).2.1, PerPhase.get_set, if_pos rfl]

theorem State.takeDue_rising_stamp {s : State} {p : Phase} {c : Time} (h : s.qualifyReached p = true)
    (hacc : (s.mtu.pins.get p).accepted = some .low) (hcand : (s.mtu.pins.get p).candidate = some c) :
    (s.takeDue (.accept p)).mtu.stamps.get p = some c := by
  rw [State.takeDue_accept h, (State.acceptLevel_mtu h).2.1]
  simp only [Qualifier.stampedBy, hacc, hcand, PerPhase.get_set, if_true]

theorem State.takeDue_nonrising_stamp {s : State} {p : Phase} (hacc : (s.mtu.pins.get p).accepted ≠ some .low) :
    (s.takeDue (.accept p)).mtu.stamps.get p = s.mtu.stamps.get p := by
  by_cases hdue : s.mainsDue (.accept p) = true
  · rw [State.takeDue_accept hdue, (State.acceptLevel_mtu hdue).2.1, Qualifier.stampedBy]
    split
    · next h _ => exact absurd h hacc
    · rfl
  · rw [State.takeDue_of_not_due hdue]

/-! ### Due events taken one at a time -/

/-- What holds of the due events that are left, and is kept by taking any one of them, holds when none is left. -/
theorem State.takeAll_reaches {P : State → List MainsDue → Prop}
    (hcount : ∀ v ds n, P v ds → P { v with freeCount := n } ds)
    (hstep : ∀ v ds i (hi : i < ds.length), P v ds → P (v.takeDue ds[i]) (ds.eraseIdx i)) {s : State}
    {ds : List MainsDue} {fuel : Nat} (hfuel : ds.length ≤ fuel) (h : P s ds) : P (State.takeAll fuel s ds) [] := by
  induction fuel generalizing s ds with
  | zero =>
    obtain rfl := List.length_eq_zero_iff.1 (Nat.le_zero.1 hfuel)
    exact h
  | succ fuel ih =>
    match ds with
    | [] => exact h
    | [d] => exact hstep s [d] 0 Nat.zero_lt_one h
    | d :: e :: ds =>
      have hi : Config.dueChoice s.freeCount % (d :: e :: ds).length < (d :: e :: ds).length :=
        Nat.mod_lt _ (Nat.succ_pos _)
      simp only [State.takeAll]
      refine ih ?_ ?_
      · rw [List.length_eraseIdx_of_lt hi]
        simp only [List.length_cons] at hfuel ⊢
        omega
      · rw [List.getD_eq_getElem _ d hi]
        exact hstep _ _ _ hi (hcount _ _ _ h)

/-- The events of `all` that are left when those not in `ds` have been taken from state `s`, with the state `v` that
they have led to. -/
structure State.Taking (s : State) (all : List MainsDue) (v : State) (ds : List MainsDue) : Prop where
  nodup : ds.Nodup
  left : ∀ d ∈ ds, d ∈ all
  due : ∀ d ∈ all, s.mainsDue d = true
  apart : v.apartFromMains = s.apartFromMains
  settings : v.mtu.settings = s.mtu.settings
  pinLeft : ∀ p, .accept p ∈ ds ∨ .accept p ∉ all → v.mtu.pins.get p = s.mtu.pins.get p
  pinTaken : ∀ p, .accept p ∈ all → .accept p ∉ ds → v.mtu.pins.get p = (s.mtu.pins.get p).taken
  risen : ∀ p c, .accept p ∈ all → .accept p ∉ ds → (s.mtu.pins.get p).accepted = some .low →
    (s.mtu.pins.get p).candidate = some c → (.loss p ∈ all → (s.time - c).toNat < 3 * s.mtu.settings.nominal) →
    v.mtu.stamps.get p = some c
  stampLeft : ∀ p, (.accept p ∈ all → (s.mtu.pins.get p).accepted ≠ some .low) → .loss p ∈ ds ∨ .loss p ∉ all →
    v.mtu.stamps.get p = s.mtu.stamps.get p
  stampLost : ∀ p, (.accept p ∈ all → (s.mtu.pins.get p).accepted ≠ some .low) → .loss p ∈ all → .loss p ∉ ds →
    v.mtu.stamps.get p = none

/-- Before any event is taken, all are left. -/
theorem State.Taking.start {s : State} {all : List MainsDue} (hnodup : all.Nodup) (hdue : ∀ d ∈ all, s.mainsDue d = true) :
    s.Taking all s all where
  nodup := hnodup
  left _ hd := hd
  due := hdue
  apart := rfl
  settings := rfl
  pinLeft _ _ := rfl
  pinTaken _ hall hnot := absurd hall hnot
  risen _ _ hall hnot := absurd hall hnot
  stampLeft _ _ _ := rfl
  stampLost _ _ hall hnot := absurd hall hnot

theorem State.qualifyReached_congr {s v : State} {p : Phase} (hpin : v.mtu.pins.get p = s.mtu.pins.get p)
    (hsettings : v.mtu.settings = s.mtu.settings) (htime : v.time = s.time) :
    v.qualifyReached p = s.qualifyReached p := by
  simp only [State.qualifyReached, hpin, hsettings, htime]

theorem State.lossReached_congr {s v : State} {p : Phase} (hstamp : v.mtu.stamps.get p = s.mtu.stamps.get p)
    (hsettings : v.mtu.settings = s.mtu.settings) (htime : v.time = s.time) : v.lossReached p = s.lossReached p := by
  simp only [State.lossReached, hstamp, hsettings, htime]

/-- Taking one of the events that are left. -/
theorem State.Taking.take {s v : State} {all ds : List MainsDue} (h : s.Taking all v ds) {d : MainsDue} (hd : d ∈ ds) :
    s.Taking all (v.takeDue d) (ds.erase d) := by
  have htime : v.time = s.time := by
    have happart := congrArg State.time h.apart
    exact happart
  have hmem (x : MainsDue) : x ∈ ds.erase d ↔ x ≠ d ∧ x ∈ ds := h.nodup.mem_erase_iff
  have hgone {x : MainsDue} (hx : x ∉ ds.erase d) (hne : d ≠ x) : x ∉ ds := fun hin => hx ((hmem x).2 ⟨hne.symm, hin⟩)
  have hstays {x : MainsDue} (hx : x ∈ ds.erase d ∨ x ∉ all) : d ≠ x ∧ (x ∈ ds ∨ x ∉ all) := by
    obtain hx | hx := hx
    · exact ⟨((hmem x).1 hx).1.symm, .inl ((hmem x).1 hx).2⟩
    · exact ⟨fun he => hx (he ▸ h.left d hd), .inr hx⟩
  have hreached {p : Phase} (hp : .accept p ∈ ds) : v.qualifyReached p = true :=
    (State.qualifyReached_congr (h.pinLeft p (.inl hp)) h.settings htime).trans (h.due (.accept p) (h.left _ hp))
  have hlosing {p : Phase} (hstamp : v.mtu.stamps.get p = s.mtu.stamps.get p) (hp : .loss p ∈ all) :
      v.lossReached p = true := (State.lossReached_congr hstamp h.settings htime).trans (h.due (.loss p) hp)
  have hnonrising {p : Phase} (hacc : .accept p ∈ all → (s.mtu.pins.get p).accepted ≠ some .low) (hp : .accept p ∈ ds) :
      (v.takeDue (.accept p)).mtu.stamps.get p = v.mtu.stamps.get p :=
    State.takeDue_nonrising_stamp (by rw [h.pinLeft p (.inl hp)]; exact hacc (h.left _ hp))
  refine ⟨h.nodup.erase d, fun x hx => h.left x ((hmem x).1 hx).2, h.due, (v.takeDue_apart d).trans h.apart,
    (v.takeDue_settings d).trans h.settings, fun p hp => ?pinLeft, fun p hall hnot => ?pinTaken,
    fun p c hall hnot hacc hcand hfresh => ?risen, fun p hacc hp => ?stampLeft, fun p hacc hall hnot => ?stampLost⟩
  case pinLeft =>
    obtain ⟨hne, hp⟩ := hstays hp
    exact (State.takeDue_pin hne).trans (h.pinLeft p hp)
  case pinTaken =>
    by_cases hdp : d = .accept p
    · subst hdp
      rw [State.takeDue_accept_pin (hreached hd), h.pinLeft p (.inl hd)]
    · exact (State.takeDue_pin hdp).trans (h.pinTaken p hall (hgone hnot hdp))
  case risen =>
    by_cases hdp : d = .accept p
    · subst hdp
      have hpin := h.pinLeft p (.inl hd)
      exact State.takeDue_rising_stamp (hreached hd) (hpin ▸ hacc) (hpin ▸ hcand)
    · have hstamp := h.risen p c hall (hgone hnot hdp) hacc hcand hfresh
      by_cases hdl : d = .loss p
      · subst hdl
        have hnot : ¬v.mainsDue (.loss p) = true := by
          change ¬v.lossReached p = true
          rw [State.lossReached_iff hstamp, h.settings, htime]
          exact Nat.not_le.2 (hfresh (h.left _ hd))
        rw [State.takeDue_of_not_due hnot, hstamp]
      · rw [State.takeDue_stamp hdp hdl, hstamp]
  case stampLeft =>
    obtain ⟨hne, hp⟩ := hstays hp
    rw [← h.stampLeft p hacc hp]
    by_cases hdp : d = .accept p
    · subst hdp
      exact hnonrising hacc hd
    · exact State.takeDue_stamp hdp hne
  case stampLost =>
    by_cases hdl : d = .loss p
    · subst hdl
      exact State.takeDue_loss_stamp (hlosing (h.stampLeft p hacc (.inl hd)) hall)
    · rw [← h.stampLost p hacc hall (hgone hnot hdl)]
      by_cases hdp : d = .accept p
      · subst hdp
        exact hnonrising hacc hd
      · exact State.takeDue_stamp hdp hdl

/-- The due events, taken one at a time in whatever order, have all been taken at the end (R119; log 7). -/
theorem State.takeAll_taking {s : State} {all : List MainsDue} (hnodup : all.Nodup)
    (hdue : ∀ d ∈ all, s.mainsDue d = true) : s.Taking all (State.takeAll all.length s all) [] := by
  refine State.takeAll_reaches (P := s.Taking all) (fun v ds n h => ?_) (fun v ds i hi h => ?_) (Nat.le_refl _)
    (State.Taking.start hnodup hdue)
  · exact ⟨h.nodup, h.left, h.due, h.apart, h.settings, h.pinLeft, h.pinTaken, h.risen, h.stampLeft, h.stampLost⟩
  · rw [← h.nodup.erase_getElem i hi]
    exact h.take (List.getElem_mem hi)

/-! ### The events that new settings make due (R104, R106, R118, R119) -/

theorem State.dueAfter_nodup (s : State) (old : MainsSettings) : (s.dueAfter old).Nodup := by
  refine List.Nodup.filter _ ?_
  split_ifs <;> decide

theorem State.mem_dueAfter {s : State} {old : MainsSettings} {d : MainsDue} :
    d ∈ s.dueAfter old ↔ (match d with
      | .accept _ => s.mtu.settings.qualify ≠ old.qualify
      | .loss _ | .tick => s.mtu.settings.frequency ≠ old.frequency) ∧ s.mainsDue d = true := by
  have hall (p : Phase) : p ∈ phases := mem_phases p
  rw [State.dueAfter, List.mem_filter]
  refine and_congr_left fun _ => ?_
  cases d <;> split_ifs <;> simp_all

/-- A change of settings that makes nothing due stores them and does nothing more (R119). -/
theorem State.changeMains_of_none {s : State} {m : MainsSettings}
    (h : ({ s with mtu := { s.mtu with settings := m } } : State).dueAfter s.mtu.settings = []) :
    s.changeMains m = { s with mtu := { s.mtu with settings := m } } := by
  rw [State.changeMains, h]
  rfl

/-- A change of settings that makes one event due takes it (R119). -/
theorem State.changeMains_of_one {s : State} {m : MainsSettings} {d : MainsDue}
    (h : ∀ e, e ∈ ({ s with mtu := { s.mtu with settings := m } } : State).dueAfter s.mtu.settings ↔ e = d) :
    s.changeMains m = ({ s with mtu := { s.mtu with settings := m } } : State).takeDue d := by
  have hone : ({ s with mtu := { s.mtu with settings := m } } : State).dueAfter s.mtu.settings = [d] := by
    refine List.perm_singleton.1 ((List.perm_ext_iff_of_nodup (State.dueAfter_nodup _ _) (List.nodup_singleton d)).2 ?_)
    simpa using h
  rw [State.changeMains, hone]
  rfl

theorem State.qualifyReached_iff {s : State} {p : Phase} :
    s.qualifyReached p = true ↔
      ((s.mtu.pins.get p).accepted = none ∧
        s.mtu.settings.qualify * 100 ≤ (s.time - (s.mtu.pins.get p).changedAt).toNat) ∨
      ((s.mtu.pins.get p).accepted ≠ none ∧ ∃ c, (s.mtu.pins.get p).candidate = some c ∧
        s.mtu.settings.qualify * 100 ≤ (s.time - c).toNat) := by
  by_cases hacc : (s.mtu.pins.get p).accepted = none
  · rw [State.qualifyReached_first hacc]
    exact ⟨fun h => .inl ⟨hacc, h⟩, fun h => h.elim And.right fun h => absurd hacc h.1⟩
  · cases hcand : (s.mtu.pins.get p).candidate with
    | none =>
      obtain ⟨level, hlevel⟩ := Option.ne_none_iff_exists'.1 hacc
      simp [State.qualifyReached, hlevel, hcand]
    | some c =>
      rw [State.qualifyReached_candidate hacc hcand]
      refine ⟨fun h => .inr ⟨hacc, c, rfl, h⟩, fun h => h.elim (fun h => absurd h.1 hacc) ?_⟩
      rintro ⟨-, d, hd, h⟩
      rwa [Option.some.inj hd]

theorem State.internalReached_iff {s : State} :
    s.internalReached = true ↔ (∀ p, s.mtu.stamps.get p = none) ∧
      s.mtu.settings.nominal ≤ (s.time - s.mtu.lastInternal).toNat := by
  rw [State.internalReached, Bool.and_eq_true, Option.isNone_iff_eq_none, Mtu.source_eq_none_iff]
  exact and_congr_right fun _ => decide_eq_true_iff

/-! ### The request (R119) -/

theorem execSetMains_range {s : State} {p : Port} {f : Byte} {band tol : BitVec 16} {settle qualify : Byte} {t : Time}
    (h : s.takesRequest p = true) (hp : p ≠ .b)
    (hm : (⟨f.toNat, band.toNat, tol.toNat, settle.toNat, qualify.toNat⟩ : MainsSettings).inRange = false) :
    execSetMains p f band tol settle qualify t s = .next ((s.at t).answering p .range []) := by
  have ht : (s.at t).takesRequest p = true := h
  exact congrArg Host.Outcome.next (State.request_of_refused ht (by simp [hp, hm]))

theorem execSetMains_state {s : State} {p : Port} {f : Byte} {band tol : BitVec 16} {settle qualify : Byte} {t : Time}
    (h : s.takesRequest p = true) (hp : p ≠ .b)
    (hm : (⟨f.toNat, band.toNat, tol.toNat, settle.toNat, qualify.toNat⟩ : MainsSettings).inRange = true)
    (hrun : s.engine.run = .auto) :
    execSetMains p f band tol settle qualify t s = .next ((s.at t).answering p .state []) := by
  have ht : (s.at t).takesRequest p = true := h
  exact congrArg Host.Outcome.next (State.request_of_refused ht (by simp [hp, hm, hrun]))

theorem State.changeMains_self (s : State) : s.changeMains s.mtu.settings = s := by
  have hnone : ({ s with mtu := { s.mtu with settings := s.mtu.settings } } : State).dueAfter s.mtu.settings = [] := by
    refine List.eq_nil_iff_forall_not_mem.2 fun d hd => ?_
    rw [State.mem_dueAfter] at hd
    cases d <;> exact hd.1 rfl
  exact State.changeMains_of_none hnone

/-- Settings in range are stored in OFF, with what they make due; those in force make nothing due (R119). -/
theorem execSetMains_stored {s : State} {p : Port} {f : Byte} {band tol : BitVec 16} {settle qualify : Byte} {t : Time}
    {m : MainsSettings} (h : s.takesRequest p = true) (hp : p ≠ .b)
    (hfields : m = ⟨f.toNat, band.toNat, tol.toNat, settle.toNat, qualify.toNat⟩) (hm : m.inRange = true)
    (hrun : s.engine.run = .off) :
    execSetMains p f band tol settle qualify t s =
      .next (((s.at t).changeMains m).answering p .ok m.fields) := by
  have ht : (s.at t).takesRequest p = true := h
  have hoff : (s.at t).engine.run = .off := hrun
  subst hfields
  refine congrArg Host.Outcome.next (State.request_of_okay ht ?_)
  simp only [hp, if_false, hm, Bool.not_true, Bool.false_eq_true, hoff, reduceCtorEq]
  split
  · next hsame => rw [hsame, State.changeMains_self]
  · rfl

/-- Settles O31: the checks, then the events that come due, taken in an order that is free. -/
theorem setMainsStoresTheSettings : Obligations.SetMainsStoresTheSettings := by
  unfold Obligations.SetMainsStoresTheSettings
  intro s p f band tol settle qualify t h hp m ranged answer now set pin nominal held accepts loses ticks reply
  have hrange : m.inRange = true ↔ ranged := by
    have hsettle : m.settle ≤ 255 := Nat.le_of_lt_succ settle.isLt
    simp only [MainsSettings.inRange, decide_eq_true_eq, hsettle, and_true]
    rfl
  have hstored (hr : ranged) (hrun : s.engine.run = .off) : reply = .next ((now.changeMains m).answering p .ok answer) :=
    execSetMains_stored h hp rfl (hrange.2 hr) hrun
  have hheld : s.held = false := State.held_of_takesRequest h
  have haccepts (ph : Phase) : .accept ph ∈ set.dueAfter s.mtu.settings ↔ accepts ph := by
    rw [State.mem_dueAfter]
    refine and_congr_right fun _ => ?_
    exact State.qualifyReached_iff (s := set)
  have hloses (ph : Phase) : .loss ph ∈ set.dueAfter s.mtu.settings ↔ loses ph := by
    rw [State.mem_dueAfter]
    refine and_congr_right fun _ => ⟨fun h => ?_, fun ⟨st, hst, hl⟩ => ?_⟩
    · cases hst : s.mtu.stamps.get ph with
      | none =>
        have hnot : set.lossReached ph = false := by
          simp only [State.lossReached, set, hst]
        cases hnot.symm.trans h
      | some st => exact ⟨st, rfl, (State.lossReached_iff (s := set) hst).1 h⟩
    · exact (State.lossReached_iff (s := set) hst).2 hl
  have hticks : .tick ∈ set.dueAfter s.mtu.settings ↔ ticks := by
    rw [State.mem_dueAfter]
    exact and_congr_right fun _ => State.internalReached_iff (s := set)
  have hdue (d : MainsDue) (hd : d ∈ set.dueAfter s.mtu.settings) : set.mainsDue d = true := (State.mem_dueAfter.1 hd).2
  have hone (hr : ranged) (hrun : s.engine.run = .off) {d : MainsDue} (hall : ∀ e, e ∈ set.dueAfter s.mtu.settings ↔ e = d) :
      reply = .next ((set.takeDue d).answering p .ok answer) := by
    rw [hstored hr hrun, State.changeMains_of_one (s := now) hall]
  refine ⟨fun hr => ?_, fun hr hrun => ?_, fun hr hrun hsame => ?_, fun hr hrun => ⟨fun hnone hnotick => ?_,
    fun ph ha hunique hnoloss hnotick => ?_, fun ph hl hunique hnoaccept => ?_, fun htick hnoaccept => ?_, ?_⟩⟩
  · exact execSetMains_range h hp (Bool.eq_false_iff.2 fun hm => hr (hrange.1 hm))
  · exact execSetMains_state h hp (hrange.2 hr) hrun
  · rw [hstored hr hrun, hsame]
    exact congrArg (fun u : State => Host.Outcome.next (u.answering p .ok answer)) (State.changeMains_self now)
  · have hempty : set.dueAfter s.mtu.settings = [] := by
      refine List.eq_nil_iff_forall_not_mem.2 fun d hd => ?_
      cases d with
      | accept ph => exact (hnone ph).1 ((haccepts ph).1 hd)
      | loss ph => exact (hnone ph).2 ((hloses ph).1 hd)
      | tick => exact hnotick (hticks.1 hd)
    rw [hstored hr hrun, State.changeMains_of_none (s := now) hempty]
  · have hin := (haccepts ph).2 ha
    have hall (e : MainsDue) : e ∈ set.dueAfter s.mtu.settings ↔ e = .accept ph := by
      refine ⟨fun he => ?_, fun he => he ▸ hin⟩
      cases e with
      | accept x => rw [hunique x ((haccepts x).1 he)]
      | loss x => exact absurd ((hloses x).1 he) (hnoloss x)
      | tick => exact absurd (hticks.1 he) hnotick
    refine ⟨set.acceptLevel ph, execQualifyTimeExpiry_reached (s := set) hheld (hdue _ hin), ?_⟩
    rw [hone hr hrun hall, State.takeDue_accept (hdue _ hin)]
  · have hin := (hloses ph).2 hl
    have hall (e : MainsDue) : e ∈ set.dueAfter s.mtu.settings ↔ e = .loss ph := by
      refine ⟨fun he => ?_, fun he => he ▸ hin⟩
      cases e with
      | accept x => exact absurd ((haccepts x).1 he) (hnoaccept x)
      | loss x => rw [hunique x ((hloses x).1 he)]
      | tick =>
        obtain ⟨-, st, hst, -⟩ := hl
        cases hst.symm.trans ((hticks.1 he).2.1 ph)
    refine ⟨set.losePhase ph, congrArg Host.Outcome.next
      (State.event_of_true (s := set) (State.losePhase · ph) hheld (hdue _ hin)), ?_⟩
    rw [hone hr hrun hall, State.takeDue_loss (hdue _ hin)]
  · have hin := hticks.2 htick
    have hall (e : MainsDue) : e ∈ set.dueAfter s.mtu.settings ↔ e = .tick := by
      refine ⟨fun he => ?_, fun he => he ▸ hin⟩
      cases e with
      | accept x => exact absurd ((haccepts x).1 he) (hnoaccept x)
      | loss x =>
        obtain ⟨-, st, hst, -⟩ := (hloses x).1 he
        cases hst.symm.trans (htick.2.1 x)
      | tick => rfl
    refine ⟨set.tickInternal, congrArg Host.Outcome.next
      (State.event_of_true (s := set) State.tickInternal hheld (hdue _ hin)), ?_⟩
    rw [hone hr hrun hall, State.takeDue_tick (hdue _ hin)]
  · have htaking : set.Taking (set.dueAfter s.mtu.settings) (now.changeMains m) [] :=
      State.takeAll_taking (set.dueAfter_nodup _) hdue
    refine ⟨now.changeMains m, hstored hr hrun, State.eq_of_apartFromMains htaking.apart, htaking.settings,
      fun ph ha => ?_, fun ph ha => ?_, fun ph c ha hacc hcand hfresh => ?_, fun ph hacc => ⟨fun hl => ?_, fun hl => ?_⟩⟩
    · exact htaking.pinTaken ph ((haccepts ph).2 ha) List.not_mem_nil
    · exact htaking.pinLeft ph (.inr fun hin => ha ((haccepts ph).1 hin))
    · exact htaking.risen ph c ((haccepts ph).2 ha) List.not_mem_nil hacc hcand fun hin => hfresh ((hloses ph).1 hin)
    · exact htaking.stampLost ph (fun hin => hacc ((haccepts ph).1 hin)) ((hloses ph).2 hl) List.not_mem_nil
    · exact htaking.stampLeft ph (fun hin => hacc ((haccepts ph).1 hin)) (.inr fun hin => hl ((hloses ph).1 hin))

end Sys2Proof.Machine


/-! PROOFS. The Arbiter's grants (08_bus_arbiter.md): which class is pending and chosen, and what each grant sends. -/

namespace Sys2Proof.Machine

/-! ### Pending classes (R143) -/

theorem State.online_iff {s : State} : s.online = true ↔ ∃ b, s.fbc.link = .online b := by
  unfold State.online
  cases s.fbc.link <;> simp

theorem State.confirmPending_isSome {s : State} :
    s.confirmPending.isSome = true ↔
      (∃ b, s.fbc.link = .online b) ∧ ∃ r ∈ s.queue.records.head?, r.state = .confirming ∧ r.attemptDue = true := by
  rw [← State.online_iff]
  unfold State.confirmPending State.headMove
  cases s.online <;> cases s.queue.records.head? <;> simp [Option.filter_some]

theorem State.readyToIssue_iff {s : State} {r : MoveRecord} :
    s.readyToIssue r = true ↔ r.state = .queued ∧ s.mtu.mains = .valid ∧
      ∃ c, s.consumer? r.consumer = some c ∧ c.phaseState = .confirmed ∧ c.recorded = some r.source := by
  unfold State.readyToIssue State.mainsValid
  cases s.consumer? r.consumer <;> simp [and_assoc]

theorem State.repeatPending_iff {s : State} {r : MoveRecord} :
    s.repeatPending r = true ↔ r.state = .issuing ∧ r.attemptDue = true ∧ s.mtu.mains = .valid := by
  simp [State.repeatPending, State.mainsValid, and_assoc]

theorem State.issuePending_isSome {s : State} :
    s.issuePending.isSome = true ↔
      (∃ b, s.fbc.link = .online b) ∧ s.mtu.mains = .valid ∧ ∃ r ∈ s.queue.records.head?,
        (r.state = .queued ∧ ∃ c, s.consumer? r.consumer = some c ∧ c.phaseState = .confirmed ∧
          c.recorded = some r.source) ∨ (r.state = .issuing ∧ r.attemptDue = true) := by
  rw [← State.online_iff]
  unfold State.issuePending State.headMove
  cases s.online with
  | false => simp
  | true =>
    cases s.queue.records.head? with
    | none => simp
    | some r =>
      simp only [if_true, Option.isSome_filter, Option.any_some, Bool.or_eq_true, State.readyToIssue_iff,
        State.repeatPending_iff, Option.mem_def, Option.some.injEq, exists_eq_left', true_and]
      constructor
      · rintro (⟨hq, hv, hc⟩ | ⟨hi, hd, hv⟩)
        exacts [⟨hv, .inl ⟨hq, hc⟩⟩, ⟨hv, .inr ⟨hi, hd⟩⟩]
      · rintro ⟨hv, ⟨hq, hc⟩ | ⟨hi, hd⟩⟩
        exacts [.inl ⟨hq, hv, hc⟩, .inr ⟨hi, hd, hv⟩]

theorem State.recheckTarget_isSome {s : State} :
    s.recheckTarget.isSome = true ↔ ∃ n c, s.consumer? n = some c ∧ c.recheck = true ∧ c.tried = false := by
  simp only [State.recheckTarget, List.find?_isSome, Prod.exists, State.mem_present, Consumer.untried, Bool.and_eq_true,
    Bool.not_eq_true']

theorem State.queryPending_isSome {s : State} :
    s.queryPending.isSome = true ↔
      ∃ p rest n, s.arb.order = p :: rest ∧ (s.arb.slots.get p).stage = .waiting n := by
  unfold State.queryPending
  cases s.arb.order with
  | nil => simp
  | cons p rest => cases hst : (s.arb.slots.get p).stage <;> simp [hst]

theorem State.sweepTarget_isSome {s : State} :
    s.sweepTarget.isSome = true ↔
      ¬(∃ n c, s.consumer? n = some c ∧ c.recheck = true ∧ c.tried = false) ∧
        ∃ n c, s.consumer? n = some c ∧ s.arb.pointer ≤ n ∧ c.recheck = false ∧
          (c.health ≤ 119 ∨ s.arb.sweepCount = 0) := by
  have hcandidate : s.sweepCandidate.isSome = true ↔ ∃ n c, s.consumer? n = some c ∧ s.arb.pointer ≤ n ∧
      c.recheck = false ∧ (c.health ≤ 119 ∨ s.arb.sweepCount = 0) := by
    rw [← not_iff_not, ← State.sweepCandidate_isNone]
    simp
  rw [← State.recheckTarget_isSome, ← hcandidate]
  unfold State.sweepTarget
  cases s.recheckTarget.isSome <;> simp

/-! ### The choice (R143, R144) -/

/-- The classes in the order of their priority (R143). -/
def classPriority : List TxnClass := [.confirm, .issue, .recheck, .query, .sweep]

theorem mem_classPriority (c : TxnClass) : c ∈ classPriority := by
  cases c <;> decide

/-- The pending class of highest priority is pending, and none before it is (R143). -/
theorem State.byPriority_eq_some {s : State} {c : TxnClass} :
    s.byPriority = some c ↔ s.pendingClass c = true ∧
      ∀ d, classPriority.idxOf d < classPriority.idxOf c → ¬s.pendingClass d = true := by
  have hnodup : classPriority.Nodup := by decide
  have hidx (d : TxnClass) : classPriority.idxOf d < classPriority.length := List.idxOf_lt_length_iff.2 (mem_classPriority d)
  rw [State.byPriority, ← classPriority, List.find?_eq_some_iff_getElem]
  refine and_congr_right fun _ => ⟨?_, fun h => ⟨_, hidx c, List.getElem_idxOf (hidx c), fun j hj => ?_⟩⟩
  · rintro ⟨i, hi, rfl, hbefore⟩ d hd
    rw [hnodup.idxOf_getElem i hi] at hd
    have hnot := hbefore _ hd
    rw [List.getElem_idxOf] at hnot
    simpa using hnot
  · have hnot := h (classPriority[j]'(hj.trans (hidx c))) (by rwa [hnodup.idxOf_getElem j (hj.trans (hidx c))])
    simpa using hnot

/-- A sweep that has waited for six grants comes first (R144). -/
theorem State.choice_eq_some {s : State} {c : TxnClass} :
    s.choice = some c ↔ s.pendingClass c = true ∧
      (s.pendingClass .sweep = true ∧ 6 ≤ s.arb.starvation → c = .sweep) ∧
      (¬(s.pendingClass .sweep = true ∧ 6 ≤ s.arb.starvation) →
        ∀ d, classPriority.idxOf d < classPriority.idxOf c → ¬s.pendingClass d = true) := by
  have hlimit : (s.pendingClass .sweep && decide (Config.starvationLimit ≤ s.arb.starvation)) = true ↔
      s.pendingClass .sweep = true ∧ 6 ≤ s.arb.starvation := by
    rw [Bool.and_eq_true, decide_eq_true_iff]
    rfl
  unfold State.choice
  by_cases hstarved : s.pendingClass .sweep = true ∧ 6 ≤ s.arb.starvation
  · rw [if_pos (hlimit.2 hstarved), Option.some.injEq]
    refine ⟨?_, fun h => (h.2.1 hstarved).symm⟩
    rintro rfl
    exact ⟨hstarved.1, fun _ => rfl, fun h => absurd hstarved h⟩
  · rw [if_neg fun h => hstarved (hlimit.1 h), State.byPriority_eq_some]
    exact and_congr_right fun _ => ⟨fun h => ⟨fun hs => absurd hs hstarved, fun _ => h⟩, fun h => h.2 hstarved⟩

theorem State.grants_iff {s : State} {c : TxnClass} :
    s.grants c = true ↔ s.fbc.link = .online .free ∧ s.choice = some c := by
  simp [State.grants, State.busFree]

/-- What a grant is for is pending (R143). -/
theorem State.pendingClass_of_grants {s : State} {c : TxnClass} (h : s.grants c = true) : s.pendingClass c = true :=
  (State.choice_eq_some.1 (State.grants_iff.1 h).2).1

/-- Settles O45. -/
theorem grantsFollowPriorityAndStarvation : Obligations.GrantsFollowPriorityAndStarvation := by
  unfold Obligations.GrantsFollowPriorityAndStarvation
  intro s online untried pending priority starved c
  have hpending : ∀ c, s.pendingClass c = true ↔ pending c
    | .confirm => State.confirmPending_isSome
    | .issue => State.issuePending_isSome
    | .recheck => State.recheckTarget_isSome
    | .query => State.queryPending_isSome
    | .sweep => State.sweepTarget_isSome
  refine ⟨hpending c, ?_, State.grants_iff⟩
  rw [State.choice_eq_some]
  simp only [hpending]
  rfl

/-! ### The frames and the line (R121, R123) -/

theorem byteSum_withCheck (bytes : List Byte) : byteSum (withCheck bytes) = 0 := by
  rw [withCheck, byteSum, List.foldl_append]
  exact BitVec.add_right_neg _

/-- The bit at a place of the n-th block of n·m bits. -/
theorem getElem?_flatMap_of_length {α β : Type} {f : α → List β} {m : Nat} (hlen : ∀ x, (f x).length = m) (l : List α)
    (i j : Nat) (hj : j < m) : (l.flatMap f)[m * i + j]? = l[i]?.bind fun x => (f x)[j]? := by
  induction l generalizing i with
  | nil => simp
  | cons x l ih =>
    rw [List.flatMap_cons]
    cases i with
    | zero => simp [List.getElem?_append_left (by rwa [hlen] : j < (f x).length)]
    | succ i =>
      have hplace : m * (i + 1) + j - m = m * i + j := by rw [Nat.mul_succ]; omega
      rw [List.getElem?_append_right (by rw [hlen, Nat.mul_succ]; omega), hlen, hplace, ih]
      rfl

theorem length_flatMap_of_length {α β : Type} {f : α → List β} {m : Nat} (hlen : ∀ x, (f x).length = m) (l : List α) :
    (l.flatMap f).length = m * l.length := by
  induction l with
  | nil => rfl
  | cons x l ih => rw [List.flatMap_cons, List.length_append, hlen, ih, List.length_cons, Nat.mul_succ, Nat.add_comm]

/-- A byte's eleven bits on the line (R121). -/
theorem lineBits_getElem? (b : Byte) (j : Nat) (hj : j < 11) :
    (lineBits (charOf b))[j]? =
      some (if j = 0 then false else if j < 9 then b.getLsbD (j - 1) else if j = 9 then decide (ones b % 2 = 0) else true) := by
  interval_cases j <;> rfl

theorem State.ftx_of_sending {s : State} {x : Txn} (hheld : s.held = false) (hlink : s.fbc.link = .online (.sending x))
    (k : Nat) : s.ftx k = x.bits.getD k true := by
  simp only [State.ftx, hheld, hlink]

theorem State.ftx_of_not_sending {s : State} (h : ∀ x, s.fbc.link ≠ .online (.sending x)) (k : Nat) : s.ftx k = true := by
  unfold State.ftx
  split
  · next x _ hlink => exact absurd hlink (h x)
  · rfl

theorem State.fde_of_not_sending {s : State} (h : ∀ x, s.fbc.link ≠ .online (.sending x)) : s.fde = false := by
  unfold State.fde
  split
  · next x hlink => exact absurd hlink (h x)
  · exact Bool.and_false _

theorem Txn.bits_of_frame {x : Txn} {i j : Nat} {b : Byte} (hb : x.frame[i]? = some b) (hj : j < 11) :
    x.bits.getD (1 + 11 * i + j) true =
      if j = 0 then false else if j < 9 then b.getLsbD (j - 1) else if j = 9 then decide (ones b % 2 = 0) else true := by
  have hplace : 1 + 11 * i + j = (11 * i + j) + 1 := by omega
  rw [Txn.bits, List.getD_eq_getElem?_getD, hplace, List.getElem?_cons_succ,
    getElem?_flatMap_of_length (f := fun b => lineBits (charOf b)) (fun _ => rfl) _ _ _ hj, hb, Option.bind_some,
    lineBits_getElem? b j hj, Option.getD_some]

theorem Txn.bits_of_end {x : Txn} {k : Nat} (hk : 11 * x.frame.length < k) : x.bits.getD k true = true := by
  have hlen : x.bits.length ≤ k := by
    rw [Txn.bits, List.length_cons, length_flatMap_of_length (m := 11) fun _ => rfl]
    omega
  rw [List.getD_eq_getElem?_getD, List.getElem?_eq_none hlen, Option.getD_none]

/-- A character is received from exactly its own eleven bits (R121). -/
theorem rxCharOf_eq_some {c : RxChar} {bits : List Bool} :
    rxCharOf bits = some c ↔
      bits = [false, c.data.getLsbD 0, c.data.getLsbD 1, c.data.getLsbD 2, c.data.getLsbD 3, c.data.getLsbD 4,
        c.data.getLsbD 5, c.data.getLsbD 6, c.data.getLsbD 7, c.parity, c.stopAtMark] := by
  have hbits : ∀ b7 b6 b5 b4 b3 b2 b1 b0, [0, 1, 2, 3, 4, 5, 6, 7].map (byteOfBits b7 b6 b5 b4 b3 b2 b1 b0).getLsbD =
      [b0, b1, b2, b3, b4, b5, b6, b7] := by decide
  constructor
  · intro h
    unfold rxCharOf at h
    split at h
    · next b0 b1 b2 b3 b4 b5 b6 b7 parity stop =>
      cases h
      simpa using hbits b7 b6 b5 b4 b3 b2 b1 b0 |>.symm
    · cases h
  · rintro rfl
    simp only [rxCharOf, byteOfBits_getLsbD]

/-! ### ISSUE (R88, R93) -/

/-- The grant of the head record that is pending, on a consumer that is present. -/
theorem State.grantIssue_eq {s : State} {r : MoveRecord} {rest : List MoveRecord} {c : Consumer}
    (hr : s.queue.records = r :: rest) (hc : s.consumer? r.consumer = some c) (hid : (s.issuedRecord r).consumer = r.consumer) :
    s.grantIssue r =
      { s with
        arb := { s.arb with starvation := if s.pendingClass .sweep then s.arb.starvation + 1 else 0 }
        fbc := { s.fbc with link := .online (.sending (s.moveTxn (s.issuedRecord r))) }
        queue := { s.queue with records := s.issuedRecord r :: rest }
        consumers := s.consumers.set r.consumer (some { c with phaseState := .moving }) } := by
  have hput : (s.begin (s.moveTxn (s.issuedRecord r))).putHead (s.issuedRecord r) = _ :=
    State.putHead_of_cons (s := s.begin (s.moveTxn (s.issuedRecord r))) hr _
  have hcons : ((s.begin (s.moveTxn (s.issuedRecord r))).putHead (s.issuedRecord r)).consumer? r.consumer = some c := by
    rw [hput]
    exact hc
  rw [State.grantIssue]
  dsimp only
  rw [State.updateConsumer_of_present hcons, hput]
  rfl

theorem State.addressOf_eq {s : State} {n : Nat} {c : Consumer} (h : s.consumer? n = some c) : s.addressOf n = c.address := by
  rw [State.addressOf, h]
  rfl

/-- An ISSUE grant is for the head record (R143). -/
theorem execIssueGrant_head {s : State} {r : MoveRecord} {rest : List MoveRecord} (hheld : s.held = false)
    (hgrant : s.grants .issue = true) (hr : s.queue.records = r :: rest) :
    exec .issueGrant s = .next (s.grantIssue r) := by
  obtain ⟨q, hq⟩ := Option.isSome_iff_exists.1 (State.pendingClass_of_grants hgrant)
  have hhead : s.headMove = some r := by rw [State.headMove, hr, List.head?_cons]
  obtain rfl : r = q := Option.some.inj (hhead.symm.trans (State.issuePending_cases hq).1)
  refine congrArg Host.Outcome.next ?_
  simp only [hq]
  exact State.event_of_true _ hheld hgrant

/-- Settles O46: the record and its frame, then the pins while it is sent. -/
theorem issueGrantSendsTheMoveFrame : Obligations.IssueGrantSendsTheMoveFrame := by
  unfold Obligations.IssueGrantSendsTheMoveFrame
  refine ⟨fun s r rest c hheld hgrant hr hc => ?_, byteSum_withCheck, fun s x hheld hlink => ?_,
    fun s h => ⟨State.fde_of_not_sending h, State.ftx_of_not_sending h⟩, fun c bits => rxCharOf_eq_some⟩
  · intro sent dead
    have hexec := execIssueGrant_head hheld hgrant hr
    refine ⟨fun hst => ?_, fun own hst hown => ?_⟩
    · have hissued := s.issuedRecord_of_queued hst
      rw [hexec, State.grantIssue_eq hr hc (by rw [hissued]), State.moveTxn, hissued]
      simp only [State.addressOf_eq hc]
      rfl
    · have hissued := s.issuedRecord_of_issuing hst
      rw [hexec, State.grantIssue_eq hr hc (by rw [hissued]), State.moveTxn, hissued]
      simp only [State.addressOf_eq hc, hown]
      rfl
  · refine ⟨?_, ?_, fun k hk => ?_, fun i j b hb hj => ?_⟩
    · simp only [State.fde, hheld, hlink]
      rfl
    · rw [State.ftx_of_sending hheld hlink]
      rfl
    · rw [State.ftx_of_sending hheld hlink, Txn.bits_of_end hk]
    · rw [State.ftx_of_sending hheld hlink, Txn.bits_of_frame hb hj]

/-! ### The polling classes (R95, R146, R148, R151) -/

/-- The first of the present records that has a property: the one with the lowest number. -/
theorem State.find?_present {s : State} {p : Nat × Consumer → Bool} {n : Nat} {c : Consumer} (hc : s.consumer? n = some c)
    (hp : p (n, c) = true) (hfirst : ∀ m d, m < n → s.consumer? m = some d → ¬p (m, d) = true) :
    s.present.find? p = some (n, c) := by
  have hfind : (s.present.find? p).isSome := List.find?_isSome.2 ⟨(n, c), State.mem_present.2 hc, hp⟩
  obtain ⟨⟨m, d⟩, hmd⟩ := Option.isSome_iff_exists.1 hfind
  obtain ⟨hpm, before, after, hlist, hbefore⟩ := List.find?_eq_some_iff_append.1 hmd
  have hm : s.consumer? m = some d := State.mem_present.1 (List.mem_of_find?_eq_some hmd)
  have hmn : m = n := by
    refine Nat.le_antisymm (Nat.le_of_not_lt fun hlt => ?_) (Nat.le_of_not_lt fun hlt => hfirst m d hlt hm hpm)
    have hmem : (n, c) ∈ before ++ (m, d) :: after := hlist ▸ State.mem_present.2 hc
    have hsorted := s.present_sorted
    rw [hlist, List.pairwise_append] at hsorted
    obtain hin | hin := List.mem_append.1 hmem
    · have hnot := hbefore (n, c) hin
      simp [hp] at hnot
    · obtain heq | hin := List.mem_cons.1 hin
      · cases heq
        exact absurd hlt (Nat.lt_irrefl _)
      · exact absurd ((List.pairwise_cons.1 hsorted.2.1).1 (n, c) hin) (Nat.lt_asymm hlt)
  subst hmn
  rw [hmd, Option.some.inj (hm.symm.trans hc)]

theorem State.qualifies_iff {s : State} {c : Consumer} :
    s.qualifies c = true ↔ c.recheck = false ∧ (c.health ≤ 119 ∨ s.arb.sweepCount = 0) := by
  have hsilent : healthLevel c.health ≠ .silent ↔ c.health ≤ 119 := by
    unfold healthLevel
    split_ifs <;> simp <;> omega
  simp only [State.qualifies, Bool.and_eq_true, Bool.not_eq_true', Bool.or_eq_true, bne_iff_ne, hsilent, beq_iff_eq]

/-- Settles O47: what is pending is the record that the statement names, and the class keeps its own account. -/
theorem pollGrantsSendThePollFrame : Obligations.PollGrantsSendThePollFrame := by
  unfold Obligations.PollGrantsSendThePollFrame
  intro s hheld poll sweeps
  have hbegin (cls : TxnClass) (n : Nat) (c : Consumer) (port : Option Port) (hc : s.consumer? n = some c) :
      s.begin (s.poll cls n port) = poll cls n c port := by
    rw [State.begin, State.poll, State.addressOf_eq hc]
    rfl
  refine ⟨fun r rest c hgrant hr hc => ?_, fun n c hgrant hc hrecheck htried hfirst => ?_,
    fun p rest n c hgrant horder hst hc => ?_, fun n c hgrant hc hptr hq hfirst => ?_⟩
  · obtain ⟨q, hq⟩ := Option.isSome_iff_exists.1 (State.pendingClass_of_grants hgrant)
    have hhead : s.headMove = some r := by rw [State.headMove, hr, List.head?_cons]
    obtain rfl : r = q := Option.some.inj (hhead.symm.trans (State.confirmPending_cases hq).1)
    refine congrArg Host.Outcome.next ?_
    simp only [hq]
    rw [State.event_of_true _ hheld hgrant, State.grantConfirm, hbegin _ _ c _ hc]
    exact State.putHead_of_cons (s := poll .confirm r.consumer c none) hr _
  · have htarget : s.recheckTarget = some (n, c) :=
      State.find?_present hc (by simp [Consumer.untried, hrecheck, htried]) fun m d hlt hd hun =>
        hfirst m d hlt hd (by simpa [Consumer.untried] using hun)
    refine congrArg Host.Outcome.next ?_
    simp only [htarget]
    rw [State.event_of_true _ hheld hgrant, State.grantRecheck, hbegin _ _ c _ hc]
    exact State.updateConsumer_of_present (s := poll .recheck n c none) hc
  · have hpending : s.queryPending = some (p, n) := by simp only [State.queryPending, horder, hst]
    refine congrArg Host.Outcome.next ?_
    simp only [hpending]
    rw [State.event_of_true _ hheld hgrant, State.grantQuery]
    dsimp only
    rw [hbegin _ _ c _ hc]
    simp only [State.putSlot, poll, horder, List.tail_cons]
  · have hcandidate : s.sweepCandidate = some (n, c) := by
      refine State.find?_present hc ?_ fun m d hlt hd hm => ?_
      · exact Bool.and_eq_true_iff.2 ⟨decide_eq_true hptr, State.qualifies_iff.2 hq⟩
      · obtain ⟨hle, hqual⟩ := Bool.and_eq_true_iff.1 hm
        exact hfirst m d (of_decide_eq_true hle) hlt hd (State.qualifies_iff.1 hqual)
    have htarget : s.sweepTarget = some (n, c) := by
      have hsome : s.sweepTarget.isSome = true := State.pendingClass_of_grants hgrant
      unfold State.sweepTarget at hsome ⊢
      split at hsome
      · cases hsome
      · next hnone => rw [if_neg hnone, hcandidate]
    refine congrArg Host.Outcome.next ?_
    simp only [htarget]
    rw [State.event_of_true _ hheld hgrant, State.grantSweep, hbegin _ _ c _ hc]

end Sys2Proof.Machine


/-! PROOFS. The field bus: what an abandoned transaction leaves (R135), the echoes (R128, R129), SET BUS (R137, R138), and
the line outside a reply (R126, R127, R130, R131). -/

namespace Sys2Proof.Machine

/-! ### A result and its class (R145) -/

theorem State.resultOnClass_query (s : State) {x : Txn} {p : Port} (hcls : x.cls = .query) (hport : x.port = some p)
    (res : TxnResult) : s.resultOnClass x res = s.queryResult x p res := by
  simp only [State.resultOnClass, hcls, hport]

theorem State.resultOnClass_issue {s : State} {x : Txn} {r : MoveRecord} {rest : List MoveRecord}
    (hcls : x.cls = .issue) (hr : s.queue.records = r :: rest) (hstate : r.state = .issuing) (res : TxnResult) :
    s.resultOnClass x res = s.issueResult r res := by
  simp only [State.resultOnClass, hcls, State.headMove, hr, List.head?_cons, hstate, if_true]

theorem State.resultOnClass_confirm {s : State} {x : Txn} {r : MoveRecord} {rest : List MoveRecord}
    (hcls : x.cls = .confirm) (hr : s.queue.records = r :: rest) (hstate : r.state = .confirming) (res : TxnResult) :
    s.resultOnClass x res = s.confirmResult r res := by
  simp only [State.resultOnClass, hcls, State.headMove, hr, List.head?_cons, hstate, if_true]

/-- A result for a record in flight finds none where the queue holds QUEUED records alone. -/
theorem State.resultOnClass_of_no_flight {s : State} {x : Txn} (hcls : x.cls = .issue ∨ x.cls = .confirm)
    (hqueued : ∀ r ∈ s.queue.records, r.state = .queued) (res : TxnResult) : s.resultOnClass x res = s := by
  have hhead : ∀ r, s.headMove = some r → r.state = .queued := fun r hr => hqueued r (List.mem_of_mem_head? hr)
  rcases hcls with hcls | hcls <;> simp only [State.resultOnClass, hcls] <;> cases hm : s.headMove with
  | none => rfl
  | some r => simp [hhead r hm]

/-! ### An abandoned transaction (R135) -/

section Abandoned

variable {s : State} {x : Txn} {cause : AbandonCause}

/-- An abandoned transaction tells nothing of its unit. -/
theorem State.result_abandoned (s : State) (x : Txn) (cause : AbandonCause) :
    s.result x (.abandoned cause) = s.resultOnClass x (.abandoned cause) := by
  unfold State.result State.resultOnRecord
  split <;> rfl

theorem State.abandoned_sweep (hcls : x.cls = .sweep) :
    s.result x (.abandoned cause) = { s with arb := { s.arb with pointer := x.consumer } } := by
  rw [State.result_abandoned]
  simp only [State.resultOnClass, hcls, TxnResult.isAbandoned, if_true]

theorem State.abandoned_recheck (hcls : x.cls = .recheck) :
    s.result x (.abandoned cause) = s.updateConsumer x.consumer fun c => { c with tried := false } := by
  rw [State.result_abandoned]
  simp only [State.resultOnClass, hcls, TxnResult.isAbandoned, if_true]

theorem State.abandoned_recheck_present {c : Consumer} (hcls : x.cls = .recheck) (hc : s.consumer? x.consumer = some c) :
    s.result x (.abandoned cause) =
      { s with consumers := s.consumers.set x.consumer (some { c with tried := false }) } := by
  rw [State.abandoned_recheck hcls, State.updateConsumer_of_present hc]
  rfl

theorem State.abandoned_recheck_absent (hcls : x.cls = .recheck) (hc : s.consumer? x.consumer = none) :
    s.result x (.abandoned cause) = s := by
  rw [State.abandoned_recheck hcls, State.updateConsumer, hc]

theorem State.abandoned_query {p : Port} (hcls : x.cls = .query) (hport : x.port = some p) :
    s.result x (.abandoned cause) = s.queryAbandoned p x.consumer := by
  rw [State.result_abandoned, State.resultOnClass_query s hcls hport]
  rfl

theorem State.abandoned_query_present {p : Port} (hcls : x.cls = .query) (hport : x.port = some p)
    (hc : s.consumer? x.consumer ≠ none) :
    s.result x (.abandoned cause) =
      { s with arb :=
          { s.arb with
            slots := s.arb.slots.set p ⟨.waiting x.consumer, (s.arb.slots.get p).result⟩
            order := p :: s.arb.order } } := by
  rw [State.abandoned_query hcls hport, State.queryAbandoned, if_neg (by simpa using hc)]
  rfl

theorem State.abandoned_query_absent {p : Port} (hcls : x.cls = .query) (hport : x.port = some p)
    (hc : s.consumer? x.consumer = none) :
    s.result x (.abandoned cause) =
      { s with
        arb := { s.arb with slots := s.arb.slots.set p ⟨.idle, some (.absent x.consumer s.engine.round)⟩ }
        ports := s.ports.set p ((s.ports.get p).raise .query) } := by
  rw [State.abandoned_query hcls hport, State.queryAbandoned, if_pos (by simpa using hc)]
  rfl

theorem State.abandoned_issue {r : MoveRecord} {rest : List MoveRecord} (hcls : x.cls = .issue)
    (hr : s.queue.records = r :: rest) (hstate : r.state = .issuing) :
    s.result x (.abandoned cause) = s.repeatOrSwitch { r with issueAttempts := r.issueAttempts - 1 } := by
  rw [State.result_abandoned, State.resultOnClass_issue hcls hr hstate]
  rfl

theorem State.abandoned_confirm {r : MoveRecord} {rest : List MoveRecord} (hcls : x.cls = .confirm)
    (hr : s.queue.records = r :: rest) (hstate : r.state = .confirming) :
    s.result x (.abandoned cause) = s.putHead { r with confirmAttempts := r.confirmAttempts - 1 }.due := by
  rw [State.result_abandoned, State.resultOnClass_confirm hcls hr hstate]
  rfl

end Abandoned

/-! ### The echoes (R128, R129) -/

theorem echoGood_iff {b : Byte} {e : Option RxChar} :
    echoGood b e = true ↔
      ∃ c, e = some c ∧ c.data = b ∧ c.stopAtMark = true ∧ (ones c.data + c.parity.toNat) % 2 = 1 := by
  cases e with
  | none => simp [echoGood]
  | some c =>
    simp only [echoGood, parityError, framingError, Option.some.injEq, exists_eq_left', Bool.and_eq_true, Bool.not_eq_true',
      beq_eq_false_iff_ne, beq_iff_eq, Bool.not_not]
    have := Nat.mod_two_ne_zero (n := ones c.data + c.parity.toNat)
    tauto

theorem echoesGood_iff {bs : List Byte} {es : List (Option RxChar)} :
    echoesGood bs es = true ↔ List.Forall₂ (fun b e => echoGood b e = true) bs es := by
  induction bs generalizing es with
  | nil => cases es <;> simp [echoesGood]
  | cons b bs ih => cases es <;> simp [echoesGood, ih]

theorem echoBad_iff {bs : List Byte} {es : List (Option RxChar)} :
    echoBad bs es = true ↔
      ∃ (i : Nat) (b : Byte) (e : Option RxChar), bs[i]? = some b ∧ es[i]? = some e ∧ ¬ echoGood b e = true := by
  induction bs generalizing es with
  | nil => simp [echoBad]
  | cons b bs ih =>
    cases es with
    | nil => simp [echoBad]
    | cons e es =>
      simp only [echoBad, Bool.or_eq_true, Bool.not_eq_true', ih]
      constructor
      · rintro (h | ⟨i, h⟩)
        · exact ⟨0, b, e, rfl, rfl, by simp [h]⟩
        · exact ⟨i + 1, h⟩
      · rintro ⟨i, c, f, hc, hf, h⟩
        cases i with
        | zero =>
          cases hc; cases hf
          exact .inl (by simpa using h)
        | succ i => exact .inr ⟨i, c, f, hc, hf, h⟩

theorem lineAfterEcho_eq (echo : List (Option RxChar)) :
    lineAfterEcho echo = match echo.getLast? with
      | some (some c) => if c.stopAtMark then .mark else .space
      | _ => .mark := by
  unfold lineAfterEcho lineAt
  rcases echo.getLast? with _ | _ | c <;> simp

theorem execRequestSent_good {s : State} {x : Txn} {echo : List (Option RxChar)} {t : Time} (hheld : s.held = false)
    (hlink : s.fbc.link = .online (.sending x)) (hgood : echoesGood x.frame echo = true) :
    exec (.requestSent echo t) s = .next
      { s with time := t, fbc := { s.fbc with link := .online (.awaiting x t), frx := .mark } } := by
  refine congrArg Host.Outcome.next ((State.event_of_true (s := s.at t) _ hheld rfl).trans ?_)
  have hat : (s.at t).fbc.link = .online (.sending x) := hlink
  simp only [State.requestSent, hat, hgood, if_true]
  rfl

/-- A bad echo: contention is counted, and the transaction ends ABANDONED. -/
theorem execContention_bad {s : State} {x : Txn} {echo : List (Option RxChar)} {t : Time} (hheld : s.held = false)
    (hlink : s.fbc.link = .online (.sending x)) (hbad : echoBad x.frame echo = true) :
    exec (.contention echo t) s =
      .next ((((s.at t).setFrx (lineAfterEcho echo)).contend).result x (.abandoned .contended)) := by
  refine congrArg Host.Outcome.next ((State.event_of_true (s := s.at t) _ hheld rfl).trans ?_)
  have hat : (s.at t).fbc.link = .online (.sending x) := hlink
  simp only [State.contendSending, hat, hbad, if_true]

/-- Settles O48. -/
theorem echoesDecideSentOrContended : Obligations.EchoesDecideSentOrContended := by
  unfold Obligations.EchoesDecideSentOrContended
  intro s x echo t hheld hlink good
  have hiff : ∀ b e, good b e ↔ echoGood b e = true := fun b e => echoGood_iff.symm
  refine ⟨fun hall => ?_, fun hbad => ?_⟩
  · exact execRequestSent_good hheld hlink (echoesGood_iff.2 (hall.imp fun b e => (hiff b e).1))
  · intro joining head reply
    have hjoining : ((s.at t).setFrx (lineAfterEcho echo)).contend = joining := by
      rw [lineAfterEcho_eq]
      rfl
    have hreply : reply = .next (joining.result x (.abandoned .contended)) := by
      rw [← hjoining]
      refine execContention_bad hheld hlink (echoBad_iff.2 ?_)
      simpa only [hiff] using hbad
    rw [hreply]
    refine ⟨fun hcls => ?_, fun c hcls hc => ?_, fun hcls hc => ?_, fun p hcls hp hc => ?_, fun p hcls hp hc => ?_,
      fun r rest hcls hr hst => ?_, fun r rest hcls hr hst => ?_⟩ <;> refine congrArg Host.Outcome.next ?_
    · exact State.abandoned_sweep hcls
    · exact State.abandoned_recheck_present (s := joining) hcls hc
    · exact State.abandoned_recheck_absent (s := joining) hcls hc
    · exact State.abandoned_query_present (s := joining) hcls hp hc
    · exact State.abandoned_query_absent (s := joining) hcls hp hc
    · refine (State.abandoned_issue (s := joining) hcls hr hst).trans ?_
      rw [State.repeatOrSwitch, State.putHead_of_cons (s := joining) hr, State.mainsValid]
      by_cases hv : s.mtu.mains = .valid
      · have hv' : joining.mtu.mains = .valid := hv
        rw [if_pos hv, hv']
        rfl
      · have hv' : (joining.mtu.mains == .valid) = false := beq_eq_false_iff_ne.2 hv
        rw [if_neg hv, hv']
        rfl
    · refine (State.abandoned_confirm (s := joining) hcls hr hst).trans ?_
      rw [State.putHead_of_cons (s := joining) hr]
      rfl

/-! ### SET BUS (R137, R138) -/

theorem bitRateOf_eq_some {n : Nat} {r : BitRate} : bitRateOf n = some r ↔ r.hundreds = n := by
  unfold bitRateOf
  split
  · cases r <;> simp [BitRate.hundreds]
  · cases r <;> simp [BitRate.hundreds]
  · cases r <;> simp [BitRate.hundreds]
  · next h1 h2 h3 => cases r <;> simp [BitRate.hundreds, Ne.symm h1, Ne.symm h2, Ne.symm h3]

theorem bitRateOf_eq_none {n : Nat} (h : ∀ r : BitRate, r.hundreds ≠ n) : bitRateOf n = none :=
  Option.eq_none_iff_forall_ne_some.2 fun r hr => h r (bitRateOf_eq_some.1 hr)

theorem State.moveInFlight_iff {s : State} :
    s.moveInFlight = true ↔ ∃ r ∈ s.queue.records, r.state ≠ .queued := by
  have hstate (st : MoveState) : st.inFlight = true ↔ st ≠ .queued := by cases st <;> simp [MoveState.inFlight]
  simp [State.moveInFlight, hstate]

/-- The settings that leave the link as it is: those in force, and any rate in OFF (R137). -/
def State.keepsLink (s : State) (on : Bool) (r : BitRate) : Prop := on = s.fbc.enabled ∧ (on = true → r = s.fbc.rate)

theorem State.linkAfter_of_kept {s : State} {on : Bool} {r : BitRate} (h : s.keepsLink on r) : s.linkAfter on r = none := by
  obtain ⟨hon, hrate⟩ := h
  cases on with
  | false => simp [State.linkAfter, ← hon]
  | true => simp [State.linkAfter, ← hon, hrate rfl]

theorem State.linkAfter_of_changed {s : State} {on : Bool} {r : BitRate} (h : ¬ s.keepsLink on r) :
    s.linkAfter on r = some (if on then .joining s.time else .off) := by
  cases on with
  | false =>
    have hon : s.fbc.enabled = true := by
      by_contra hoff
      exact h ⟨by simpa using hoff, by simp⟩
    simp [State.linkAfter, hon]
  | true =>
    have hor : (!s.fbc.enabled || r != s.fbc.rate) = true := by
      by_contra hsame
      simp only [Bool.or_eq_true, Bool.not_eq_true', bne_iff_ne, ne_eq, not_or, Bool.not_eq_false, not_not] at hsame
      exact h ⟨hsame.1.symm, fun _ => hsame.2⟩
    simp [State.linkAfter, hor]

theorem State.changeBus_of_kept {s : State} {on : Bool} {r : BitRate} (h : s.keepsLink on r) :
    s.changeBus on r = { s with fbc := { s.fbc with enabled := on, rate := r } } := by
  simp only [State.changeBus, State.linkAfter_of_kept h]

theorem State.changeBus_of_changed {s : State} {on : Bool} {r : BitRate} (h : ¬ s.keepsLink on r) :
    s.changeBus on r =
      let set : State :=
        { s with fbc := { s.fbc with enabled := on, rate := r, link := if on then .joining s.time else .off } }
      match s.txn? with
      | some x => set.result x (.abandoned .settings)
      | none => set := by
  have htxn : ({ s with fbc := { s.fbc with enabled := on, rate := r } } : State).txn? = s.txn? := State.txn?_congr rfl
  simp only [State.changeBus, State.linkAfter_of_changed h, State.cutOff, htxn]
  cases s.txn? <;> rfl

theorem execSetBus_range {s : State} {p : Port} {enable : Byte} {rate : BitVec 16} {t : Time}
    (h : s.takesRequest p = true) (hp : p ≠ .b)
    (hout : 2 ≤ enable.toNat ∨ ∀ r : BitRate, r.hundreds ≠ rate.toNat) :
    exec (.setBus p enable rate t) s = .next ((s.at t).answering p .range []) := by
  have ht : (s.at t).takesRequest p = true := h
  refine congrArg Host.Outcome.next (State.request_of_refused (t := s.at t) ht ?_)
  rw [if_neg hp]
  rcases hout with henable | hrate
  · rw [decide_eq_false (p := enable.toNat ≤ 1) (by omega)]
  · rw [bitRateOf_eq_none hrate]
    cases decide (enable.toNat ≤ 1) <;> rfl

section Ranged

variable {s : State} {p : Port} {enable : Byte} {rate : BitVec 16} {t : Time} {r : BitRate}

theorem execSetBus_state (h : s.takesRequest p = true) (hp : p ≠ .b) (henable : enable.toNat < 2)
    (hrate : r.hundreds = rate.toNat) (hrun : s.engine.run = .auto) :
    exec (.setBus p enable rate t) s = .next ((s.at t).answering p .state []) := by
  have ht : (s.at t).takesRequest p = true := h
  refine congrArg Host.Outcome.next (State.request_of_refused (t := s.at t) ht ?_)
  simp only [if_neg hp, decide_eq_true (Nat.le_of_lt_succ henable), bitRateOf_eq_some.2 hrate]
  exact if_pos hrun

theorem execSetBus_busy (h : s.takesRequest p = true) (hp : p ≠ .b) (henable : enable.toNat < 2)
    (hrate : r.hundreds = rate.toNat) (hrun : s.engine.run = .off) (hflies : ∃ r ∈ s.queue.records, r.state ≠ .queued) :
    exec (.setBus p enable rate t) s = .next ((s.at t).answering p .busy []) := by
  have ht : (s.at t).takesRequest p = true := h
  have hoff : (s.at t).engine.run ≠ .auto := by simp [State.at, hrun]
  have hbusy : (s.at t).moveInFlight = true := State.moveInFlight_iff.2 hflies
  refine congrArg Host.Outcome.next (State.request_of_refused (t := s.at t) ht ?_)
  simp only [if_neg hp, decide_eq_true (Nat.le_of_lt_succ henable), bitRateOf_eq_some.2 hrate, if_neg hoff, hbusy, if_true]

theorem execSetBus_stored (h : s.takesRequest p = true) (hp : p ≠ .b) (henable : enable.toNat < 2)
    (hrate : r.hundreds = rate.toNat) (hrun : s.engine.run = .off) (hqueued : ∀ r ∈ s.queue.records, r.state = .queued) :
    exec (.setBus p enable rate t) s =
      let cut := (s.at t).changeBus (enable.toNat == 1) r
      .next (cut.answering p .ok cut.fbc.settingFields) := by
  have ht : (s.at t).takesRequest p = true := h
  have hoff : (s.at t).engine.run ≠ .auto := by simp [State.at, hrun]
  have hfree : (s.at t).moveInFlight = false := by
    rw [Bool.eq_false_iff, ne_eq, State.moveInFlight_iff]
    rintro ⟨m, hm, hne⟩
    exact hne (hqueued m hm)
  refine congrArg Host.Outcome.next (State.request_of_okay ht ?_)
  simp only [if_neg hp, decide_eq_true (Nat.le_of_lt_succ henable), bitRateOf_eq_some.2 hrate, if_neg hoff, hfree,
    Bool.false_eq_true, if_false]

end Ranged

/-- Settles O32: the checks, then the stored settings with the class of the transaction that they cut off. -/
theorem setBusStoresTheSettings : Obligations.SetBusStoresTheSettings := by
  unfold Obligations.SetBusStoresTheSettings
  intro s p enable rate t h hp now reply flying
  refine ⟨fun hout => execSetBus_range h hp hout, fun r henable hrate => ⟨fun hrun => ?_, fun hrun hflies => ?_,
    fun hrun hfree => ?_⟩⟩
  · exact execSetBus_state h hp henable hrate hrun
  · exact execSetBus_busy h hp henable hrate hrun hflies
  · intro on kept link set cut
    have hqueued : ∀ r ∈ s.queue.records, r.state = .queued := fun m hm => by
      by_contra hne
      exact hfree ⟨m, hm, hne⟩
    have hcut (hk : ¬ kept) {x : Txn} (hx : s.txn? = some x) : cut = set.result x (.abandoned .settings) := by
      simp only [cut, if_neg hk, hx]
    have hchange : now.changeBus on r = cut := by
      by_cases hk : kept
      · have hlink : link = s.fbc.link := if_pos hk
        rw [State.changeBus_of_kept (s := now) hk]
        simp only [cut, if_pos hk, set, hlink]
        rfl
      · have hlink : link = if on then .joining t else .off := if_neg hk
        have htxn : now.txn? = s.txn? := rfl
        rw [State.changeBus_of_changed (s := now) hk, htxn]
        simp only [cut, if_neg hk, set, hlink]
        rfl
    refine ⟨?_, fun x hk hx => ?_⟩
    · rw [← hchange]
      exact execSetBus_stored h hp henable hrate hrun hqueued
    · rw [hcut hk hx]
      refine ⟨fun hcls => State.abandoned_sweep hcls, fun c hcls hc => State.abandoned_recheck_present (s := set) hcls hc,
        fun hcls hc => State.abandoned_recheck_absent (s := set) hcls hc,
        fun q hcls hport hc => State.abandoned_query_present (s := set) hcls hport hc,
        fun q hcls hport hc => State.abandoned_query_absent (s := set) hcls hport hc, fun hcls => ?_⟩
      rw [State.result_abandoned]
      exact State.resultOnClass_of_no_flight (s := set) hcls hqueued _

/-! ### The line outside a reply (R122, R126, R127, R130, R131) -/

/-- Intervals as the statements count them, in µs × bit/s. -/
theorem bitsPassed_iff (rate : BitRate) (bits : Nat) (now start : Time) :
    bitsPassed rate bits now start = true ↔ bits * 1000000 ≤ (now - start).toNat * (rate.hundreds * 100) := by
  rw [bitsPassed, decide_eq_true_iff, since, ← Nat.mul_assoc]
  omega

theorem settlesInTime_iff (rate : BitRate) (e z : Time) :
    settlesInTime rate e z = true ↔ (z - e).toNat * (rate.hundreds * 100) + 44 * 1000000 ≤ 264 * 1000000 := by
  rw [settlesInTime, decide_eq_true_iff, since, ← Nat.mul_assoc, Config.quietBits, Config.joinBits]
  omega

section SpaceNow

variable {s : State}

theorem State.spaceNow_of_free (h : s.fbc.link = .online .free) : s.spaceNow = s.contend := by
  simp only [State.spaceNow, h, State.spaceAt, State.contend]

theorem State.spaceNow_of_quiet {e z : Time} (h : s.fbc.link = .online (.quiet e z)) :
    s.spaceNow = s.putLink (.online (.quiet e s.time)) := by
  simp only [State.spaceNow, h, State.spaceAt]

theorem State.spaceNow_of_joining {z : Time} (h : s.fbc.link = .joining z) :
    s.spaceNow = s.putLink (.joining s.time) := by
  simp only [State.spaceNow, h, State.spaceAt]

theorem State.spaceNow_of_awaiting {x : Txn} {a : Time} (h : s.fbc.link = .online (.awaiting x a)) :
    s.spaceNow = s.putLink (if (s.time - a).toNat ≤ 20000 then .online (.receiving x s.time) else s.fbc.link) := by
  simp only [State.spaceNow, h]
  by_cases hin : since s.time a ≤ Config.replyLimit
  · exact (if_pos hin).trans (congrArg s.putLink (if_pos hin).symm)
  · refine (if_neg hin).trans (Eq.trans ?_ (congrArg s.putLink (if_neg hin).symm))
    rw [← h]
    rfl

theorem State.spaceNow_of_busy {x : Txn} {b : Time}
    (h : s.fbc.link = .online (.sending x) ∨ s.fbc.link = .online (.receiving x b) ∨ s.fbc.link = .off) :
    s.spaceNow = s := by
  rcases h with h | h | h <;> simp only [State.spaceNow, h, State.spaceAt]

end SpaceNow

theorem execFrxAtSpace_eq {s : State} (hheld : s.held = false) (stays : Bool) (t : Time) :
    exec (.frxAtSpace ⟨stays, t⟩) s = .next ((s.at t).spaceNow.setFrx (if stays then .space else .mark)) := by
  refine congrArg Host.Outcome.next ?_
  have hevent := State.event_of_true (s := s.at t) State.spaceNow hheld rfl
  cases stays <;> exact congrArg (fun u => State.setFrx u _) hevent

theorem State.quietLimitReached_iff {s : State} {e z : Time} (h : s.fbc.link = .online (.quiet e z)) :
    s.quietLimitReached = true ↔ bitsPassed s.fbc.rate 264 s.time e = true ∧
      (s.fbc.frx = .space ∨ ¬ settlesInTime s.fbc.rate e z = true) := by
  simp [State.quietLimitReached, h, Config.joinBits]

theorem State.quietEnded_iff {s : State} {e z : Time} (h : s.fbc.link = .online (.quiet e z)) :
    s.quietEnded = true ↔ s.fbc.frx = .mark ∧ bitsPassed s.fbc.rate 44 s.time z = true ∧
      settlesInTime s.fbc.rate e z = true := by
  simp [State.quietEnded, h, Config.quietBits, and_assoc]

theorem State.joined_iff {s : State} {z : Time} (h : s.fbc.link = .joining z) :
    s.joined = true ↔ s.fbc.frx = .mark ∧ bitsPassed s.fbc.rate 264 s.time z = true := by
  simp [State.joined, h, Config.joinBits]

/-- No wait of the line ends while FRX is at space (R126, R127). -/
theorem State.waits_of_space {s : State} (h : s.fbc.frx = .space) : s.joined = false ∧ s.quietEnded = false := by
  unfold State.joined State.quietEnded
  rcases s.fbc.link with _ | _ | (_ | _ | _ | _ | _) <;> simp [h]

/-- Settles O49. -/
theorem lineEventsMoveTheLink : Obligations.LineEventsMoveTheLink := by
  unfold Obligations.LineEventsMoveTheLink
  intro s t hheld rate linked contended pin
  have hrate : rate = s.fbc.rate.hundreds * 100 := by
    simp only [rate]
    cases s.fbc.rate <;> rfl
  rw [hrate]
  have hspace (stays : Bool) (u : State) (hu : (s.at t).spaceNow = u) :
      exec (.frxAtSpace ⟨stays, t⟩) s = .next (u.setFrx (pin stays)) := hu ▸ execFrxAtSpace_eq hheld stays t
  refine ⟨fun hlink => ⟨?_, fun stays => ?_⟩, fun e z hlink => ⟨fun hlimit hlate => ?_, fun hmark hquiet hsettled => ?_,
    fun stays => ?_⟩, fun z hlink => ⟨fun hmark hjoin => ?_, fun stays => ?_⟩, fun hpin z _ => ⟨?_, ?_⟩,
    fun x a stays hlink => ?_, fun x b stays hlink => ?_⟩
  · have hfree : (s.at t).busFree = true := beq_iff_eq.2 hlink
    exact congrArg Host.Outcome.next (State.event_of_true _ hheld hfree)
  · exact hspace stays _ (State.spaceNow_of_free (s := s.at t) hlink)
  · have hreached : (s.at t).quietLimitReached = true := by
      rw [State.quietLimitReached_iff (s := s.at t) hlink, bitsPassed_iff, settlesInTime_iff, Nat.not_le]
      exact ⟨hlimit, hlate⟩
    exact congrArg Host.Outcome.next (State.event_of_true _ hheld hreached)
  · have hended : (s.at t).quietEnded = true := by
      rw [State.quietEnded_iff (s := s.at t) hlink, bitsPassed_iff, settlesInTime_iff]
      exact ⟨hmark, hquiet, hsettled⟩
    refine congrArg Host.Outcome.next ((State.event_of_true (s := s.at t) _ hheld hended).trans ?_)
    simp only [linked, ← hmark]
    rfl
  · exact hspace stays _ (State.spaceNow_of_quiet (s := s.at t) hlink)
  · have hjoined : (s.at t).joined = true := by
      rw [State.joined_iff (s := s.at t) hlink, bitsPassed_iff]
      exact ⟨hmark, hjoin⟩
    refine congrArg Host.Outcome.next ((State.event_of_true (s := s.at t) _ hheld hjoined).trans ?_)
    simp only [linked, ← hmark]
    rfl
  · exact hspace stays _ (State.spaceNow_of_joining (s := s.at t) hlink)
  · exact congrArg Host.Outcome.next (State.event_of_false _ (.inr (State.waits_of_space (s := s.at t) hpin).1))
  · exact congrArg Host.Outcome.next (State.event_of_false _ (.inr (State.waits_of_space (s := s.at t) hpin).2))
  · exact hspace stays _ (State.spaceNow_of_awaiting (s := s.at t) hlink)
  · exact hspace stays _ (State.spaceNow_of_busy (s := s.at t) hlink)

end Sys2Proof.Machine


/-! PROOFS. A reply that fails: what it does to the record of its unit and to its class, when a gap or the reply limit ends
it, and the reply tests one character at a time (R131, R132). -/

namespace Sys2Proof.Machine

/-! ### A result and the record of its unit (R145, R154, R155) -/

theorem State.sameRecord_iff {s : State} {x : Txn} :
    s.sameRecord x = true ↔ x.sameRecord = true ∧ ∃ c, s.consumer? x.consumer = some c := by
  simp [State.sameRecord, Option.isSome_iff_exists]

/-- A record installed or removed since the grant is not reached (R3). -/
theorem State.resultOnRecord_of_unreached {s : State} {x : Txn} (h : s.sameRecord x = false) (res : TxnResult) :
    s.resultOnRecord x res = s := by
  simp [State.resultOnRecord, h]

theorem State.resultOnRecord_failed {s : State} {x : Txn} {c : Consumer} (hsame : x.sameRecord = true)
    (hc : s.consumer? x.consumer = some c) (k : FailKind) :
    s.resultOnRecord x (.failed k) =
      { s with
        consumers := s.consumers.set x.consumer (some { c with health := min 160 (c.health + 4) })
        ports := if 116 ≤ c.health ∧ c.health ≤ 119 then s.ports.map fun q => q.raise .link else s.ports } := by
  have hreached : s.sameRecord x = true := State.sameRecord_iff.2 ⟨hsame, c, hc⟩
  simp only [State.resultOnRecord, hreached, if_true, State.resultHealth, State.scoreHealth_eq false hc, Bool.false_eq_true,
    false_and, true_and, false_or, if_false]

theorem State.resultOnRecord_failed_queue (s : State) (x : Txn) (k : FailKind) :
    (s.resultOnRecord x (.failed k)).queue = s.queue := by
  unfold State.resultOnRecord
  split
  · have hqueue : (s.scoreHealth x.consumer false).queue = s.queue := by simp
    exact hqueue
  · rfl

/-! ### A failed reply and its class (R92, R97, R147, R148, R151) -/

theorem State.resultOnClass_failed_poll {s : State} {x : Txn} (hcls : x.cls = .recheck ∨ x.cls = .sweep) (k : FailKind) :
    s.resultOnClass x (.failed k) = s := by
  rcases hcls with hcls | hcls <;> simp [State.resultOnClass, hcls, TxnResult.isAbandoned]

theorem State.completeQuery_eq {s : State} {a : Arbiter} (harb : s.arb = a) (p : Port) (r : QueryResult) :
    s.completeQuery p r =
      { s with
        arb := { a with slots := a.slots.set p ⟨.idle, some r⟩ }
        ports := s.ports.set p ((s.ports.get p).raise .query) } := by
  subst harb
  rfl

/-- A failed MOVE attempt: a wait of 2 before the repeat, or SWITCHING where no repeat may follow (R92). -/
theorem State.attemptFailed_eq {s : State} {q : MoveQueue} {m : Mtu} {r : MoveRecord} {rest : List MoveRecord}
    (hq : s.queue = q) (hm : s.mtu = m) (hr : q.records = r :: rest) :
    s.attemptFailed r =
      { s with queue := { q with records :=
          (if r.issueAttempts < 3 ∧ m.mains = .valid then { r with wait := some 2, waitEnded := false, attemptDue := false }
          else
            { r with
              state := .switching, wait := some ((r.deadTime.getD 0 + 1) / 2 + 6), waitEnded := false
              attemptDue := false }) :: rest } } := by
  subst hq hm
  rw [State.attemptFailed, State.putHead_of_cons hr, State.mainsValid]
  simp only [Bool.and_eq_true, decide_eq_true_eq, beq_iff_eq]
  rfl

theorem State.confirmFailed_again {s : State} {q : MoveQueue} {r : MoveRecord} {rest : List MoveRecord} (hq : s.queue = q)
    (hr : q.records = r :: rest) (hleft : r.confirmAttempts < 3) :
    s.confirmFailed r =
      { s with queue :=
        { q with records := { r with wait := some 5, waitEnded := false, attemptDue := false } :: rest } } := by
  subst hq
  rw [State.confirmFailed, if_pos hleft, State.putHead_of_cons hr]
  rfl

/-- The last confirm attempt has failed: the record ends LOST, its consumer UNCERTAIN (R11, R97). -/
theorem State.confirmFailed_lost {s : State} {q : MoveQueue} {r : MoveRecord} {rest : List MoveRecord} {c : Consumer}
    {round : RoundNo} (hq : s.queue = q) (hround : s.engine.round = round) (hr : q.records = r :: rest)
    (hnone : 3 ≤ r.confirmAttempts) (hc : s.consumer? r.consumer = some c) :
    s.confirmFailed r =
      ({ s with
          queue := { q with records := rest }
          consumers := s.consumers.set r.consumer (some
            { c with
              phaseState := .uncertain, recheck := true, tried := false, ops := min 63 (c.ops + 1)
              lastMove := some round }) }.writeEntry r.consumer (some r.source) r.target
        (.moveEnd r.id r.origin .lost none)).settleHead := by
  subst hq hround
  rw [State.confirmFailed, if_neg (Nat.not_lt.2 hnone), State.lost, State.endMove_eq _ _ _ _ hc, hr]
  rfl

/-! ### The reply tests, one character at a time (R132) -/

/-- The tests of one more character: it finds the reply still open, or the reply has been settled before it. -/
theorem judgeFrom_append (e : Expected) (cs : List RxChar) (c : RxChar) (i : Nat) (sum : Byte) (got : List Byte) :
    judgeFrom e (cs ++ [c]) i sum got = match judgeFrom e cs i sum got with
      | .incomplete =>
        judgeFrom e [c] (i + cs.length) ((cs.map (·.data)).foldl (· + ·) sum) ((cs.map (·.data)).reverse ++ got)
      | _ => .overrun := by
  induction cs generalizing i sum got with
  | nil => rfl
  | cons d cs ih =>
    have hne : (cs ++ [c]).isEmpty = false := by cases cs <;> rfl
    rw [List.cons_append, judgeFrom, judgeFrom, hne]
    cases charTest e i d (sum + d.data) with
    | some k => cases cs.isEmpty <;> rfl
    | none =>
      by_cases hlast : i = e.last
      · simp only [if_pos hlast]
        cases cs.isEmpty <;> rfl
      · simp only [if_neg hlast, ih, List.length_cons, List.map_cons, List.foldl_cons, List.reverse_cons, List.append_assoc,
          List.singleton_append]
        rw [show i + 1 + cs.length = i + (cs.length + 1) by omega]

theorem verdictOf_isSome {n : Nat} : (verdictOf n).isSome = true ↔ ¬ (n = 0 ∨ 6 ≤ n) := by
  unfold verdictOf
  split <;> simp_all
  omega

/-- The tests of a character alone: its parity and stop bit, its byte by its position, and the sum at the last one. -/
theorem judgeFrom_single (e : Expected) (c : RxChar) (i : Nat) (sum : Byte) (got : List Byte) :
    judgeFrom e [c] i sum got =
      if (ones c.data + c.parity.toNat) % 2 = 0 then .failed .parity
      else if c.stopAtMark = false then .failed .framing
      else match byteTest e i c.data (sum + c.data) with
        | some k => .failed k
        | none => if i = e.last then .good (got.reverse ++ [c.data]) else .incomplete := by
  simp only [judgeFrom, charTest, parityError, framingError, beq_iff_eq, Bool.not_eq_true', List.isEmpty_nil, if_true]
  by_cases hparity : (ones c.data + c.parity.toNat) % 2 = 0
  · simp only [if_pos hparity]
  · by_cases hstop : c.stopAtMark = false
    · simp only [if_neg hparity, if_pos hstop]
    · simp only [if_neg hparity, if_neg hstop] <;> cases byteTest e i c.data (sum + c.data) <;> rfl

/-- The test of a byte by its position in the reply, with the sum of the bytes up to it (R132). -/
theorem byteTest_outcome (e : Expected) (i : Nat) (b sum : Byte) (got : List Byte) :
    (match byteTest e i b sum with
      | some k => .failed k
      | none => if i = e.last then .good got else .incomplete) =
      if i = 0 ∧ b ≠ e.address then Reply.failed .address
      else if i = 1 ∧ b ≠ (if e.isMove then 0x12 else 0x11) then .failed .kind
      else if i = 2 ∧ b ≠ (if e.isMove then 2 else 6) then .failed .length
      else if i = 4 ∧ e.isMove = true ∧ (b.toNat % 16 = 0 ∨ 6 ≤ b.toNat % 16) then .failed .kind
      else if i = (if e.isMove then 5 else 9) then if sum = 0 then .good got else .failed .check
      else .incomplete := by
  have hlast : 5 ≤ e.last := by unfold Expected.last; split <;> omega
  have hkind : e.kindByte = if e.isMove then 0x12 else 0x11 := rfl
  have hlength : e.lengthByte = if e.isMove then 2 else 6 := rfl
  have hend : e.last = if e.isMove then 5 else 9 := rfl
  rw [← hkind, ← hlength, ← hend]
  have hopen (h : i < 5) : i ≠ e.last := by omega
  match i with
  | 0 => by_cases hb : b = e.address <;> simp [byteTest, hb, hopen]
  | 1 => by_cases hb : b = e.kindByte <;> simp [byteTest, hb, hopen]
  | 2 => by_cases hb : b = e.lengthByte <;> simp [byteTest, hb, hopen]
  | i + 3 =>
    by_cases hi : i + 3 = e.last
    · have h0 : e.last ≠ 0 := by omega
      have h1 : e.last ≠ 1 := by omega
      have h2 : e.last ≠ 2 := by omega
      have h4 : e.last ≠ 4 := by omega
      by_cases hsum : sum = 0#8 <;> simp [byteTest, hi, h0, h1, h2, h4, hsum]
    · by_cases hverdict : i = 1 ∧ e.isMove = true
      · obtain ⟨rfl, hmove⟩ := hverdict
        by_cases hv : b.toNat % 16 = 0 ∨ 6 ≤ b.toNat % 16
        · have hnone := mt verdictOf_isSome.1 (not_not_intro hv)
          simp [byteTest, hi, hmove, hnone, hv]
        · have hsome := verdictOf_isSome.2 hv
          simp [byteTest, hi, hmove, hsome, hv]
      · have hmove : ¬ (e.isMove = true ∧ i = 1) := fun h => hverdict h.symm
        simp only [byteTest, hi, hmove, Nat.add_eq_zero_iff, Nat.reduceEqDiff, OfNat.ofNat_ne_zero, and_false, if_false,
          false_and]
        exact (if_neg fun h => hverdict ⟨by omega, h.2.1⟩).symm

theorem judge_append (e : Expected) (chars : List RxChar) (c : RxChar) :
    judge e (chars ++ [c]) = match judge e chars with
      | .incomplete =>
        if (ones c.data + c.parity.toNat) % 2 = 0 then .failed .parity
        else if c.stopAtMark = false then .failed .framing
        else match byteTest e chars.length c.data (byteSum (chars.map (·.data)) + c.data) with
          | some k => .failed k
          | none => if chars.length = e.last then .good (chars.map (·.data) ++ [c.data]) else .incomplete
      | _ => .overrun := by
  rw [judge, judgeFrom_append, judgeFrom_single, Nat.zero_add, List.append_nil, List.reverse_reverse]
  rfl

/-! ### When a reply fails (R131, R132) -/

/-- The transaction ends FAILED: the stage is QUIET, and the result is handed on. -/
theorem State.endTxn_failed {s u : State} {x : Txn} {k : FailKind} (hquiet : s.putLink (.online (.quiet s.time s.time)) = u) :
    s.endTxn x (.failed k) = (u.resultOnRecord x (.failed k)).resultOnClass x (.failed k) := by
  rw [State.endTxn, hquiet, State.result]

theorem State.noReply_of_awaiting {s : State} {x : Txn} {a : Time} (hlink : s.fbc.link = .online (.awaiting x a))
    (hlimit : 20000 ≤ (s.time - a).toNat) : s.noReply = s.endTxn x (.failed .noReply) := by
  simp only [State.noReply, hlink]
  exact if_pos hlimit

theorem lineAfter_of_last {chars : List RxAt} {last : RxAt} (hlast : chars.getLast? = some last) :
    lineAfter (chars.map (·.char)) = if last.char.stopAtMark then .mark else .space := by
  simp [lineAfter, lineAt, List.getLast?_map, hlast]

theorem gapPassed_iff {rate : BitRate} {chars : List RxAt} {last : RxAt} {now : Time} (hlast : chars.getLast? = some last) :
    gapPassed rate chars now = true ↔ (11 + 33) * 1000000 ≤ (now - last.start).toNat * (rate.hundreds * 100) := by
  rw [gapPassed, hlast]
  exact bitsPassed_iff _ _ _ _

section Characters

variable {s : State} {x : Txn} {chars : List RxAt} {first : RxAt}

theorem State.gapAfter_taken (hfirst : chars.head? = some first) (ht : s.replyFrom first.start = some x)
    (hfree : gapFree s.fbc.rate (chars.map (·.start)) = true) (hpassed : gapPassed s.fbc.rate chars s.time = true)
    (hopen : judge x.expects (chars.map (·.char)) = .incomplete) :
    s.gapAfter chars = (s.setFrx .mark).endTxn x (.failed .gap) := by
  cases chars with
  | nil => cases hfirst
  | cons c cs =>
    cases hfirst
    have hall : (gapFree s.fbc.rate ((first :: cs).map (·.start)) && gapPassed s.fbc.rate (first :: cs) s.time
        && judge x.expects ((first :: cs).map (·.char)) == .incomplete) = true := by
      rw [hfree, hpassed, hopen]
      rfl
    simp only [State.gapAfter, ht]
    exact if_pos hall

theorem State.gapAfter_early (hfirst : chars.head? = some first) (ht : s.replyFrom first.start = some x)
    (hpassed : gapPassed s.fbc.rate chars s.time = false) : s.gapAfter chars = s := by
  cases chars with
  | nil => rfl
  | cons c cs =>
    cases hfirst
    simp [State.gapAfter, ht, hpassed]

theorem State.gapAfter_untaken (hfirst : chars.head? = some first) (ht : s.replyFrom first.start = none) :
    s.gapAfter chars = s := by
  cases chars with
  | nil => rfl
  | cons c cs =>
    cases hfirst
    simp only [State.gapAfter, ht]

theorem State.receiveAt_failed {k : FailKind} (hfirst : chars.head? = some first) (ht : s.replyFrom first.start = some x)
    (hfree : gapFree s.fbc.rate (chars.map (·.start)) = true)
    (hfailed : judge x.expects (chars.map (·.char)) = .failed k) :
    s.receiveAt chars = (s.setFrx (lineAfter (chars.map (·.char)))).endTxn x (.failed k) := by
  have hresult : replyResult x (chars.map (·.char)) = some (.failed k) := by rw [replyResult, hfailed]
  cases chars with
  | nil => cases hfirst
  | cons c cs =>
    cases hfirst
    simp only [State.receiveAt, State.receive, ht, hfree, hresult]

theorem State.receiveAt_untaken (hfirst : chars.head? = some first) (ht : s.replyFrom first.start = none)
    (htxn : s.txn?.isSome = true) : s.receiveAt chars = s := by
  cases chars with
  | nil => rfl
  | cons c cs =>
    cases hfirst
    simp only [State.receiveAt, State.receive, ht, htxn, if_true]

end Characters

/-- Settles O50: the events that fail a reply, then the class of the transaction, then the tests of R132. -/
theorem failedRepliesCountAgainstTheUnit : Obligations.FailedRepliesCountAgainstTheUnit := by
  unfold Obligations.FailedRepliesCountAgainstTheUnit
  refine ⟨?_, ?_⟩
  · intro s x t hheld rate awaits near quiet blamed after
    have hrate : rate = s.fbc.rate.hundreds * 100 := by
      simp only [rate]
      cases s.fbc.rate <;> rfl
    have hblamed (k : FailKind) (pin : Line) : (quiet pin).resultOnRecord x (.failed k) = blamed pin := by
      cases hsame : x.sameRecord with
      | false =>
        have hlost : (quiet pin).sameRecord x = false := by simp [State.sameRecord, hsame]
        rw [State.resultOnRecord_of_unreached hlost]
        simp only [blamed, hsame]
      | true =>
        cases hc : s.consumer? x.consumer with
        | none =>
          have hlost : (quiet pin).sameRecord x = false := by
            have hc' : (quiet pin).consumer? x.consumer = none := hc
            simp [State.sameRecord, hc']
          rw [State.resultOnRecord_of_unreached hlost]
          simp only [blamed, hsame, hc]
        | some c =>
          rw [State.resultOnRecord_failed (s := quiet pin) hsame hc]
          simp only [blamed, hsame, hc]
          rfl
    have hends (k : FailKind) (pin : Line) {u : State} (hu : u = (s.at t).setFrx pin) :
        u.endTxn x (.failed k) = after k pin := by
      rw [State.endTxn_failed (u := quiet pin) (by rw [hu]; rfl), hblamed]
    have hfrom {start : Time} (h : awaits start) : (s.at t).replyFrom start = some x :=
      State.replyFrom_eq_some (s := s.at t).2 h
    have hfree {chars : List RxAt} (h : near chars) : gapFree s.fbc.rate (chars.map (·.start)) = true := by
      rw [gapFree_iff, ← hrate]
      intro i c d hc hd
      simp only [List.getElem?_map, Option.map_eq_some_iff] at hc hd
      obtain ⟨a, ha, rfl⟩ := hc
      obtain ⟨b, hb, rfl⟩ := hd
      exact h i a b ha hb
    have hframe (pin : Line) : (blamed pin).queue = s.queue ∧ (blamed pin).mtu = s.mtu ∧ (blamed pin).arb = s.arb ∧
        (blamed pin).engine = s.engine := by
      obtain ⟨-, -, -, -, -, hengine, hmtu, -, harb, -⟩ := (quiet pin).resultOnRecord_frame x (.failed .gap)
      rw [← hblamed .gap pin]
      exact ⟨State.resultOnRecord_failed_queue _ _ _, hmtu, harb, hengine⟩
    refine ⟨fun a hlink hlimit => ?_, fun chars first last hfirst hlast haw hnear => ?_, fun chars first a hfirst hlink hlate => ?_,
      fun k pin hcls => State.resultOnClass_failed_poll hcls k, fun k pin p hcls hport => ?_,
      fun k pin r rest hcls hr hst => ?_, fun k pin r rest hcls hr hst => ?_⟩
    · refine congrArg Host.Outcome.next ((State.event_of_true (s := s.at t) _ hheld rfl).trans ?_)
      exact (State.noReply_of_awaiting (s := s.at t) hlink hlimit).trans (hends .noReply s.fbc.frx rfl)
    · intro read
      have ht := hfrom haw
      have hgaps := hfree hnear
      have hpassed : gapPassed s.fbc.rate chars t = true ↔ (11 + 33) * 1000000 ≤ (t - last.start).toNat * rate := by
        rw [gapPassed_iff hlast, hrate]
      refine ⟨fun hopen hgap => ?_, fun hopen hearly => ?_, fun k hfailed => ?_⟩ <;>
        refine congrArg Host.Outcome.next ((State.event_of_true (s := s.at t) _ hheld rfl).trans ?_)
      · exact (State.gapAfter_taken (s := s.at t) hfirst ht hgaps (hpassed.2 hgap) hopen).trans (hends .gap .mark rfl)
      · have hnot : gapPassed s.fbc.rate chars t = false := Bool.eq_false_iff.2 fun h => Nat.not_le.2 hearly (hpassed.1 h)
        exact State.gapAfter_early (s := s.at t) hfirst ht hnot
      · exact (State.receiveAt_failed (s := s.at t) hfirst ht hgaps hfailed).trans
          (hends k _ (congrArg (s.at t).setFrx (lineAfter_of_last hlast)))
    · have ht : (s.at t).replyFrom first.start = none := by
        have hat : (s.at t).fbc.link = .online (.awaiting x a) := hlink
        simp only [State.replyFrom, hat]
        exact if_neg (Nat.not_le.2 hlate)
      have htxn : (s.at t).txn?.isSome = true := by
        have hat : (s.at t).fbc.link = .online (.awaiting x a) := hlink
        simp only [State.txn?, hat, Option.isSome_some]
      constructor <;> refine congrArg Host.Outcome.next ((State.event_of_true (s := s.at t) _ hheld rfl).trans ?_)
      · exact State.gapAfter_untaken hfirst ht
      · exact State.receiveAt_untaken hfirst ht htxn
    · obtain ⟨-, -, harb, hengine⟩ := hframe pin
      refine (State.resultOnClass_query (blamed pin) hcls hport _).trans ?_
      have hround : (blamed pin).engine.round = s.engine.round := congrArg Engine.round hengine
      rw [State.queryResult, hround, State.completeQuery_eq harb]
    · obtain ⟨hqueue, hmtu, -, -⟩ := hframe pin
      have hq : (blamed pin).queue.records = r :: rest := hqueue ▸ hr
      exact (State.resultOnClass_issue hcls hq hst _).trans (State.attemptFailed_eq hqueue hmtu hr)
    · obtain ⟨hqueue, -, -, hengine⟩ := hframe pin
      have hq : (blamed pin).queue.records = r :: rest := hqueue ▸ hr
      have hround : (blamed pin).engine.round = s.engine.round := congrArg Engine.round hengine
      refine ⟨fun hleft => ?_, fun c hnone hc => ?_⟩
      · exact (State.resultOnClass_confirm hcls hq hst _).trans (State.confirmFailed_again hqueue hr hleft)
      · exact (State.resultOnClass_confirm hcls hq hst _).trans (State.confirmFailed_lost hqueue hround hr hnone hc)
  · intro e chars c last
    refine ⟨rfl, ?_⟩
    rw [judge_append]
    cases judge e chars with
    | incomplete =>
      simp only [byteTest_outcome] <;> rfl
    | failed | good | overrun => rfl

end Sys2Proof.Machine


/-! PROOFS. A whole reply without error: the result it hands on (R133, R134), what a good STATE does to the map (R3, R6 to
R10), and how the Executor takes a confirm reply and an ANSWER (R90 to R92, R96 to R98). -/

namespace Sys2Proof.Machine

/-! ### What a whole frame hands on (R132 to R134) -/

theorem clampInt_eq {bound : Int} (h : 0 ≤ bound) (v : Int) : clampInt bound v = max (-bound) (min bound v) := by
  unfold clampInt
  split
  · omega
  · split <;> omega

theorem replyResult_state {x : Txn} (hcls : x.cls ≠ .issue) (status tag : Byte) (X Y : BitVec 16) :
    replyResult x ((stateFrame x.address status X Y tag).map charOf) =
      some (.state ⟨phaseOfCode (status.toNat % 4),
        ⟨max (-1000) (min 1000 X.toInt), max (-1000) (min 1000 Y.toInt)⟩, status.getLsbD 4, status.getLsbD 5, tag⟩) := by
  have hexpects : x.expects = ⟨byteOf x.address, false⟩ := by simp [Txn.expects, hcls]
  rw [replyResult, hexpects, judge_stateFrame]
  simp only [if_neg hcls, decodeState_stateFrame, clampInt_eq (by decide : (0 : Int) ≤ 1000), Option.map_some]

/-- A STATE is no reply to a MOVE (R132). -/
theorem replyResult_state_move {x : Txn} (hcls : x.cls = .issue) (status tag : Byte) (X Y : BitVec 16) :
    replyResult x ((stateFrame x.address status X Y tag).map charOf) = none := by
  have hexpects : x.expects = ⟨byteOf x.address, true⟩ := by simp [Txn.expects, hcls]
  rw [replyResult, hexpects, judge_stateFrame_move]

theorem replyResult_answer {x : Txn} (hcls : x.cls = .issue) (tag verdict : Byte) :
    replyResult x ((answerFrame x.address tag verdict).map charOf) =
      (verdictOf (verdict.toNat % 16)).map fun v => .answer tag v (phaseOfCode (verdict.toNat / 16 % 4)) := by
  have hexpects : x.expects = ⟨byteOf x.address, true⟩ := by simp [Txn.expects, hcls]
  rw [replyResult, hexpects, judge_answerFrame]
  cases hv : verdictOf (verdict.toNat % 16) with
  | none => simp
  | some v => simp [hcls, answerFrame, withCheck, decodeAnswer, hv]

/-- The moments of a whole reply as the statements give them: the transaction takes it from its first character on, and no
gap stands between its characters. -/
structure State.TakesReply (s : State) (x : Txn) (starts : List Time) : Prop where
  taken : ∃ start, starts.head? = some start ∧ s.replyFrom start = some x
  gapless : gapFree s.fbc.rate starts = true

theorem State.takesReply_of {s : State} {x : Txn} {starts : List Time} {start : Time} {rate : Nat}
    (haw : (∃ a, s.fbc.link = .online (.awaiting x a) ∧ (start - a).toNat ≤ 20000) ∨
      s.fbc.link = .online (.receiving x start))
    (hrate : rate = s.fbc.rate.hundreds * 100) (hhead : starts.head? = some start)
    (hnear : ∀ i a b, starts[i]? = some a → starts[i + 1]? = some b → (b - a).toNat * rate ≤ (11 + 33) * 1000000) :
    s.TakesReply x starts :=
  ⟨⟨start, hhead, State.replyFrom_eq_some.2 haw⟩, (gapFree_iff _ _).2 (hrate ▸ hnear)⟩

theorem State.TakesReply.receiveFrame {s : State} {x : Txn} {starts : List Time} (h : s.TakesReply x starts)
    {frame : Nat → List Byte} (hlen : starts.length = (frame x.address).length) {result : Option TxnResult}
    (hresult : replyResult x ((frame x.address).map charOf) = result) :
    s.receiveFrame starts frame = (result.map ((s.setFrx .mark).endTxn x)).getD s := by
  obtain ⟨⟨start, hhead, ht⟩, hfree⟩ := h
  rw [State.receiveFrame_of_taken frame hhead ht hlen hfree, hresult]
  cases result <;> rfl

section Taken

variable {s : State} {x : Txn} {starts : List Time} {t : Time} {result : Option TxnResult} (hheld : s.held = false)
  (htakes : (s.at t).TakesReply x starts)

include hheld htakes

theorem execState_taken {status tag : Byte} {X Y : BitVec 16} (hlen : starts.length = 10)
    (hresult : replyResult x ((stateFrame x.address status X Y tag).map charOf) = result) :
    exec (.state status X Y tag ⟨starts, t⟩) s =
      .next ((result.map (((s.at t).setFrx .mark).endTxn x)).getD (s.at t)) :=
  congrArg Host.Outcome.next ((State.event_of_true (s := s.at t) _ hheld rfl).trans
    (htakes.receiveFrame (frame := fun a => stateFrame a status X Y tag) hlen hresult))

theorem execAnswer_taken {tag verdict : Byte} (hlen : starts.length = 6)
    (hresult : replyResult x ((answerFrame x.address tag verdict).map charOf) = result) :
    exec (.answer tag verdict ⟨starts, t⟩) s =
      .next ((result.map (((s.at t).setFrx .mark).endTxn x)).getD (s.at t)) :=
  congrArg Host.Outcome.next ((State.event_of_true (s := s.at t) _ hheld rfl).trans
    (htakes.receiveFrame (frame := fun a => answerFrame a tag verdict) hlen hresult))

end Taken

/-! ### A good STATE on the map (R3, R6 to R10, R154, R155) -/

theorem State.resultOnRecord_state {s : State} {x : Txn} (h : s.sameRecord x = true) (r : StateReply) :
    s.resultOnRecord x (.state r) = (s.scoreHealth x.consumer true).applyReply x.consumer r := by
  simp only [State.resultOnRecord, h, if_true, State.resultHealth]

theorem State.scoreHealth_good {s : State} {n : Nat} {c : Consumer} (hc : s.consumer? n = some c) :
    s.scoreHealth n true =
      { s with
        consumers := s.consumers.set n (some { c with health := c.health - 1 })
        ports := if c.health = 40 then s.ports.map fun q => q.raise .link else s.ports } := by
  simp only [State.scoreHealth_eq true hc, true_and, Bool.true_eq_false, false_and, or_false, if_true]

theorem State.scoreHealth_bad {s : State} {n : Nat} {c : Consumer} (hc : s.consumer? n = some c) :
    s.scoreHealth n false =
      { s with
        consumers := s.consumers.set n (some { c with health := min 160 (c.health + 4) })
        ports := if 116 ≤ c.health ∧ c.health ≤ 119 then s.ports.map fun q => q.raise .link else s.ports } := by
  simp only [State.scoreHealth_eq false hc, true_and, Bool.false_eq_true, false_and, false_or, if_false]

theorem State.scoreHealth_consumer? {s : State} {n : Nat} {c : Consumer} (hc : s.consumer? n = some c) :
    (s.scoreHealth n true).consumer? n = some { c with health := c.health - 1 } := by
  rw [State.scoreHealth_good hc]
  exact consumer?_of_set _ hc rfl

/-- After a health score of its own a record is put back with its score. -/
theorem State.scoreHealth_putConsumer {s : State} {n : Nat} {c : Consumer} (hc : s.consumer? n = some c) (d : Consumer) :
    (s.scoreHealth n true).putConsumer n (some d) =
      { s with
        consumers := s.consumers.set n (some d)
        ports := if c.health = 40 then s.ports.map fun q => q.raise .link else s.ports } := by
  simp only [State.scoreHealth_good hc, State.putConsumer, List.set_set]

theorem Consumer.phaseState_cases (c : Consumer) : c.phaseState = .unknown ∨ c.phaseState = .confirmed ∨
    c.phaseState = .moving ∨ c.phaseState = .uncertain := by
  cases c.phaseState <;> simp

section ApplyReply

variable {s : State} {n : Nat} {c : Consumer} {r : StateReply} {p : Phase} (hc : s.consumer? n = some c)

include hc

/-- The first phase seen of an UNKNOWN consumer (R6). -/
theorem State.applyReply_first (hps : c.phaseState = .unknown) (hp : r.phase = some p) :
    s.applyReply n r = ((s.putConsumer n (some ((c.takeReading r s.engine.round).confirm p))).writeEntry n none p
      (.observed .first)).settleHead := by
  simp only [State.applyReply, hc, hps, hp]
  rfl

/-- A CONFIRMED consumer seen on its recorded phase keeps its place in the map (R7). -/
theorem State.applyReply_same (hps : c.phaseState = .confirmed) (hp : r.phase = some p) (hrec : c.recorded = some p) :
    s.applyReply n r = (s.putConsumer n (some (c.takeReading r s.engine.round))).settleHead := by
  simp only [State.applyReply, hc, hps, hp, hrec, if_true]

/-- A CONFIRMED consumer seen on another phase has been moved from outside (R7). -/
theorem State.applyReply_external (hps : c.phaseState = .confirmed) (hp : r.phase = some p) (hrec : c.recorded ≠ some p) :
    s.applyReply n r =
      (((s.putConsumer n (some ((c.takeReading r s.engine.round).confirm p))).writeEntry n c.recorded p
        (.observed .external)).raiseAll .unplanned).settleHead := by
  simp only [State.applyReply, hc, hps, hp, if_neg hrec]
  rfl

/-- A CONFIRMED consumer seen OPEN is UNCERTAIN (R7). -/
theorem State.applyReply_open (hps : c.phaseState = .confirmed) (hp : r.phase = none) :
    s.applyReply n r = (s.putConsumer n (some (c.takeReading r s.engine.round).lose)).settleHead := by
  simp only [State.applyReply, hc, hps, hp]

/-- An UNCERTAIN consumer seen on its recorded phase is CONFIRMED again (R9). -/
theorem State.applyReply_regained (hps : c.phaseState = .uncertain) (hp : r.phase = some p) (hrec : c.recorded = some p) :
    s.applyReply n r = (s.putConsumer n (some ((c.takeReading r s.engine.round).confirm p))).settleHead := by
  simp only [State.applyReply, hc, hps, hp, hrec, if_true]

/-- An UNCERTAIN consumer seen on another phase is found there (R9). -/
theorem State.applyReply_recovered (hps : c.phaseState = .uncertain) (hp : r.phase = some p) (hrec : c.recorded ≠ some p) :
    s.applyReply n r =
      ((s.putConsumer n (some ((c.takeReading r s.engine.round).confirm p))).writeEntry n c.recorded p
        (.observed .recovered)).settleHead := by
  simp only [State.applyReply, hc, hps, hp, if_neg hrec]
  rfl

/-- Elsewhere the reading and the status alone are renewed (R3, R10). -/
theorem State.applyReply_kept (h : c.phaseState = .moving ∨ (c.phaseState = .unknown ∨ c.phaseState = .uncertain) ∧ r.phase = none) :
    s.applyReply n r = (s.putConsumer n (some (c.takeReading r s.engine.round))).settleHead := by
  rcases h with hps | ⟨hps | hps, hp⟩
  · simp only [State.applyReply, hc, hps]
  · simp only [State.applyReply, hc, hps, hp]
  · simp only [State.applyReply, hc, hps, hp]

end ApplyReply

theorem State.resultOnClass_state_poll {s : State} {x : Txn} (hcls : x.cls = .recheck ∨ x.cls = .sweep) (r : StateReply) :
    s.resultOnClass x (.state r) = s := by
  rcases hcls with hcls | hcls <;> simp [State.resultOnClass, hcls, TxnResult.isAbandoned]

/-- Settles O51: the frame's result, its effect on the map by the record's phase state, then the class. -/
theorem goodStateReplyUpdatesTheMap : Obligations.GoodStateReplyUpdatesTheMap := by
  unfold Obligations.GoodStateReplyUpdatesTheMap
  intro s x status tag X Y starts start t hheld haw rate hhead hlen hnear phase clamp reply n quiet seen on kept mapped updated
  have hrate : rate = s.fbc.rate.hundreds * 100 := by
    simp only [rate]
    cases s.fbc.rate <;> rfl
  have htakes : (s.at t).TakesReply x starts := State.takesReply_of (s := s.at t) haw hrate hhead hnear
  have hmapped {c : Consumer} (hc : s.consumer? n = some c) :
      (quiet.scoreHealth n true).applyReply n reply = (mapped c).settleHead := by
    have hc' := State.scoreHealth_consumer? (s := quiet) hc
    have hput := State.scoreHealth_putConsumer (s := quiet) hc
    have hround : (quiet.scoreHealth n true).engine.round = s.engine.round := by simp [quiet]
    have hopen := Option.eq_none_or_eq_some phase
    rcases hopen with hp | ⟨p, hp⟩ <;> rcases c.phaseState_cases with hps | hps | hps | hps
    · have hm : mapped c = kept c (seen c) := by simp only [mapped, hps, hp]
      rw [State.applyReply_kept hc' (.inr ⟨.inl hps, hp⟩), hput, hround, hm]
      rfl
    · have hm : mapped c = kept c { seen c with phaseState := .uncertain, recheck := true, tried := false } := by
        simp only [mapped, hps, hp]
      rw [State.applyReply_open hc' hps hp, hput, hround, hm]
      rfl
    · have hm : mapped c = kept c (seen c) := by simp only [mapped, hps, hp]
      rw [State.applyReply_kept hc' (.inl hps), hput, hround, hm]
      rfl
    · have hm : mapped c = kept c (seen c) := by simp only [mapped, hps, hp]
      rw [State.applyReply_kept hc' (.inr ⟨.inr hps, hp⟩), hput, hround, hm]
      rfl
    · have hm : mapped c = (kept c (on c p)).writeEntry n none p (.observed .first) := by simp only [mapped, hps, hp]
      rw [State.applyReply_first hc' hps hp, hput, hround, hm]
      rfl
    · by_cases hrec : c.recorded = some p
      · have hm : mapped c = kept c (seen c) := by simp only [mapped, hps, hp, if_pos hrec]
        rw [State.applyReply_same hc' hps hp hrec, hput, hround, hm]
        rfl
      · have hm : mapped c = ((kept c (on c p)).writeEntry n c.recorded p (.observed .external)).raiseAll .unplanned := by
          simp only [mapped, hps, hp, if_neg hrec]
        rw [State.applyReply_external hc' hps hp hrec, hput, hround, hm]
        rfl
    · have hm : mapped c = kept c (seen c) := by simp only [mapped, hps, hp]
      rw [State.applyReply_kept hc' (.inl hps), hput, hround, hm]
      rfl
    · by_cases hrec : c.recorded = some p
      · have hm : mapped c = kept c (on c p) := by simp only [mapped, hps, hp, if_pos hrec]
        rw [State.applyReply_regained hc' hps hp hrec, hput, hround, hm]
        rfl
      · have hm : mapped c = (kept c (on c p)).writeEntry n c.recorded p (.observed .recovered) := by
          simp only [mapped, hps, hp, if_neg hrec]
        rw [State.applyReply_recovered hc' hps hp hrec, hput, hround, hm]
        rfl
  have hupdated : quiet.resultOnRecord x (.state reply) = updated := by
    cases hreached : quiet.sameRecord x with
    | true =>
      obtain ⟨hsame, c, hc⟩ := State.sameRecord_iff.1 hreached
      have hc' : s.consumer? n = some c := hc
      rw [State.resultOnRecord_state hreached, hmapped hc']
      simp only [updated, hsame, hc']
    | false =>
      rw [State.resultOnRecord_of_unreached hreached]
      cases hsame : x.sameRecord with
      | false => simp only [updated, hsame]
      | true =>
        cases hc : s.consumer? n with
        | none => simp only [updated, hsame, hc]
        | some c =>
          have hreached' := State.sameRecord_iff.2 ⟨hsame, c, (hc : quiet.consumer? x.consumer = some c)⟩
          cases hreached.symm.trans hreached'
  have hpoll (hcls : x.cls ≠ .issue) : exec (.state status X Y tag ⟨starts, t⟩) s =
      .next (updated.resultOnClass x (.state reply)) := by
    rw [execState_taken hheld htakes hlen (replyResult_state hcls status tag X Y), ← hupdated]
    rfl
  refine ⟨fun hcls => ?_, fun p hcls hport => ?_, fun hcls => ?_, fun hcls => ?_⟩
  · rw [hpoll (by rcases hcls with h | h <;> simp [h]), State.resultOnClass_state_poll hcls]
  · obtain ⟨-, -, -, -, -, hengine, -, -, harb, -⟩ := quiet.resultOnRecord_frame x (.state reply)
    rw [hupdated] at hengine harb
    have harb : updated.arb = s.arb := harb
    have hround : updated.engine.round = s.engine.round := congrArg Engine.round hengine
    rw [hpoll (by simp [hcls]), State.resultOnClass_query _ hcls hport, State.queryResult, hround,
      State.completeQuery_eq harb]
  · exact hpoll (by simp [hcls])
  · exact execState_taken hheld htakes hlen (replyResult_state_move hcls status tag X Y)

/-! ### The end of the record in flight (R98) -/

/-- The head record has left the queue, its consumer's record is `d`, and its MOVE_END is written. -/
def State.moveEnded (s : State) (r : MoveRecord) (rest : List MoveRecord) (d : Consumer) (o : Outcome)
    (v : Option Refused) : State :=
  ({ s with
    queue := { s.queue with records := rest }
    consumers := s.consumers.set r.consumer (some d) } : State).writeEntry r.consumer (some r.source) r.target
    (.moveEnd r.id r.origin o v)

section Ends

variable {s : State} {r : MoveRecord} {rest : List MoveRecord} {c : Consumer} (hr : s.queue.records = r :: rest)
  (hc : s.consumer? r.consumer = some c)

include hr hc

theorem State.endMove_plain (o : Outcome) (v : Option Refused) (f : Consumer → Consumer) :
    s.endMove r o v f none = (s.moveEnded r rest (f c) o v).settleHead := by
  rw [State.endMove_eq o v f none hc, hr]
  rfl

theorem State.endMove_found (o : Outcome) (v : Option Refused) (f : Consumer → Consumer) (p : Phase) :
    s.endMove r o v f (some p) =
      (((s.moveEnded r rest (f c) o v).writeEntry r.consumer (some r.source) p (.observed .external)).raiseAll
        .unplanned).settleHead := by
  rw [State.endMove_eq o v f (some p) hc, hr]
  rfl

/-- The unit is seen on the target: DONE (R96). -/
theorem State.confirmed_target :
    s.confirmed r r.target =
      (s.moveEnded r rest ((c.confirm r.target).wear s.engine.round) .done none).settleHead := by
  rw [State.confirmed, if_pos rfl, State.endMove_plain hr hc]

/-- The unit is seen on the source: FAILED (R96). -/
theorem State.confirmed_source (hne : r.source ≠ r.target) :
    s.confirmed r r.source = (s.moveEnded r rest (c.confirm r.source) .failed none).settleHead := by
  rw [State.confirmed, if_neg hne, if_pos rfl, State.endMove_plain hr hc]

/-- The unit is seen on the third phase: FAILED, with an OBSERVED entry of its own (R96). -/
theorem State.confirmed_third {p : Phase} (htarget : p ≠ r.target) (hsource : p ≠ r.source) :
    s.confirmed r p =
      (((s.moveEnded r rest (c.confirm p) .failed none).writeEntry r.consumer (some r.source) p
        (.observed .external)).raiseAll .unplanned).settleHead := by
  rw [State.confirmed, if_neg htarget, if_neg hsource, State.endMove_found hr hc]

theorem State.lost_eq :
    s.lost r = (s.moveEnded r rest (c.lose.wear s.engine.round) .lost none).settleHead := by
  rw [State.lost, State.endMove_plain hr hc]

theorem State.refusedMove_lockout (reported : Reported) :
    s.refusedMove r .lockout reported =
      (s.moveEnded r rest { c.confirm r.source with lockout := true } .refused (some .lockout)).settleHead := by
  rw [State.refusedMove, State.endMove_plain hr hc]

theorem State.refusedMove_novolt (reported : Reported) :
    s.refusedMove r .novolt reported =
      (s.moveEnded r rest (c.confirm r.source) .refused (some .novolt)).settleHead := by
  rw [State.refusedMove, State.endMove_plain hr hc]

theorem State.refusedMove_open :
    s.refusedMove r .phase none = (s.moveEnded r rest c.lose .refused (some .phase)).settleHead := by
  rw [State.refusedMove, State.endMove_plain hr hc]

theorem State.refusedMove_source :
    s.refusedMove r .phase (some r.source) =
      (s.moveEnded r rest (c.confirm r.source) .refused (some .phase)).settleHead := by
  rw [State.refusedMove, if_pos rfl, State.endMove_plain hr hc]

theorem State.refusedMove_elsewhere {p : Phase} (hne : p ≠ r.source) :
    s.refusedMove r .phase (some p) =
      (((s.moveEnded r rest (c.confirm p) .refused (some .phase)).writeEntry r.consumer (some r.source) p
        (.observed .external)).raiseAll .unplanned).settleHead := by
  rw [State.refusedMove, if_neg hne, State.endMove_found hr hc]

end Ends

/-! ### The confirm reply (R96, R97) -/

/-- A good STATE that confirms a move renews the reading, the status and the health of its MOVING consumer (R11). -/
theorem State.resultOnRecord_moving {s : State} {x : Txn} {r : MoveRecord} {rest : List MoveRecord} {c : Consumer}
    (hsame : x.sameRecord = true) (hr : s.queue.records = r :: rest) (hst : r.state ≠ .queued)
    (hc : s.consumer? x.consumer = some c) (hmoving : c.phaseState = .moving) (reply : StateReply) :
    s.resultOnRecord x (.state reply) =
      { s with
        consumers := s.consumers.set x.consumer (some
          ({ c with health := c.health - 1 }.takeReading reply s.engine.round))
        ports := if c.health = 40 then s.ports.map fun q => q.raise .link else s.ports } := by
  have hround : (s.scoreHealth x.consumer true).engine.round = s.engine.round := by simp
  rw [State.resultOnRecord_state (State.sameRecord_iff.2 ⟨hsame, c, hc⟩),
    State.applyReply_kept (State.scoreHealth_consumer? hc) (.inl hmoving), State.scoreHealth_putConsumer hc, hround]
  exact State.settleHead_of_flying hr hst

theorem phaseCode_of_phaseOfCode {p : Phase} {n : Nat} (h : n = phaseCode p) : phaseOfCode n = some p :=
  h ▸ phaseOfCode_phaseCode p

/-- Settles O52: the reply on the record, then DONE, FAILED, the next attempt or LOST. -/
theorem confirmReplyDecidesTheOutcome : Obligations.ConfirmReplyDecidesTheOutcome := by
  unfold Obligations.ConfirmReplyDecidesTheOutcome
  intro s x status tag X Y starts start t r rest c hheld haw rate hhead hlen hnear hcls hsame hr hst hrx hne hc hmoving
    clamp seen on worn state ended answer
  have hrate : rate = s.fbc.rate.hundreds * 100 := by
    simp only [rate]
    cases s.fbc.rate <;> rfl
  have htakes : (s.at t).TakesReply x starts := State.takesReply_of (s := s.at t) haw hrate hhead hnear
  have hpoll : x.cls ≠ .issue := by simp [hcls]
  have hflying : r.state ≠ .queued := by simp [hst]
  have hqueue : ({ s.queue with records := r :: rest } : MoveQueue) = s.queue := by rw [← hr]
  have hin : (state (r :: rest) seen).queue.records = r :: rest := rfl
  have hseen : (state (r :: rest) seen).consumer? r.consumer = some seen := consumer?_of_set _ hc rfl
  have hended (d : Consumer) (o : Outcome) : (state (r :: rest) seen).moveEnded r rest d o none = ended d o := by
    simp only [ended, State.moveEnded, state, List.set_set]
  have hanswer : answer = .next ((state (r :: rest) seen).confirmResult r (.state ⟨phaseOfCode (status.toNat % 4),
      ⟨clamp X, clamp Y⟩, status.getLsbD 4, status.getLsbD 5, tag⟩)) := by
    refine (execState_taken hheld htakes hlen (replyResult_state hpoll status tag X Y)).trans (congrArg Host.Outcome.next ?_)
    rw [← State.resultOnClass_confirm hcls hin hst]
    refine congrArg (fun u : State => u.resultOnClass x _) ?_
    refine (State.resultOnRecord_moving (s := ((s.at t).setFrx .mark).putLink (.online (.quiet t t))) hsame hr hflying
      (hrx ▸ hc) hmoving _).trans ?_
    simp only [state, hqueue, ← hrx]
    rfl
  have hopen (h : status.toNat % 4 = 0) : answer = .next ((state (r :: rest) seen).confirmFailed r) := by
    rw [hanswer, h]
    rfl
  have hon {p : Phase} (h : status.toNat % 4 = phaseCode p) : answer = .next ((state (r :: rest) seen).confirmed r p) := by
    rw [hanswer, phaseCode_of_phaseOfCode h]
    rfl
  refine ⟨fun h => ?_, fun h => ?_, fun p h htarget hsource => ?_, fun h hleft => ?_, fun h hnone => ?_⟩
  · rw [hon h, State.confirmed_target hin hseen, hended]
    rfl
  · rw [hon h, State.confirmed_source hin hseen hne, hended]
    rfl
  · rw [hon h, State.confirmed_third hin hseen htarget hsource, hended]
    rfl
  · exact (hopen h).trans (congrArg Host.Outcome.next
      (State.confirmFailed_again (q := (state (r :: rest) seen).queue) rfl hin hleft))
  · rw [hopen h, State.confirmFailed, if_neg (Nat.not_lt.2 hnone), State.lost_eq hin hseen, hended]
    rfl

/-! ### The ANSWER (R90 to R92) -/

theorem State.foreignTag_of_cons {s : State} {r : MoveRecord} {rest : List MoveRecord} (hr : s.queue.records = r :: rest)
    (tag : Byte) : s.foreignTag tag = (r.tag != tag) := by
  simp only [State.foreignTag, State.headMove, hr, List.head?_cons]

theorem State.resultOnRecord_answer {s : State} {x : Txn} (h : s.sameRecord x = true) (tag : Byte) (v : Verdict)
    (reported : Reported) :
    s.resultOnRecord x (.answer tag v reported) = s.scoreHealth x.consumer (!s.foreignTag tag) := by
  simp only [State.resultOnRecord, h, if_true, State.resultHealth]

/-- An ANSWER with a foreign tag counts against the unit and fails the attempt (R92). -/
theorem State.result_answer_foreign {s : State} {x : Txn} {r : MoveRecord} {rest : List MoveRecord} {tag : Byte}
    (hsame : s.sameRecord x = true) (hcls : x.cls = .issue) (hr : s.queue.records = r :: rest) (hst : r.state = .issuing)
    (htag : r.tag ≠ tag) (v : Verdict) (reported : Reported) :
    s.result x (.answer tag v reported) = (s.scoreHealth x.consumer false).attemptFailed r := by
  have hforeign : (!s.foreignTag tag) = false := by simp [State.foreignTag_of_cons hr, htag]
  have hqueue : (s.scoreHealth x.consumer false).queue.records = r :: rest := by simpa using hr
  rw [State.result, State.resultOnRecord_answer hsame, hforeign, State.resultOnClass_issue hcls hqueue hst]
  exact if_neg htag

/-- An ANSWER with the record's own tag counts for the unit and goes to the Executor (R90, R91). -/
theorem State.result_answer_own {s : State} {x : Txn} {r : MoveRecord} {rest : List MoveRecord} {tag : Byte}
    (hsame : s.sameRecord x = true) (hcls : x.cls = .issue) (hr : s.queue.records = r :: rest) (hst : r.state = .issuing)
    (htag : r.tag = tag) (v : Verdict) (reported : Reported) :
    s.result x (.answer tag v reported) = (s.scoreHealth x.consumer true).moveAnswered r v reported := by
  have hown : (!s.foreignTag tag) = true := by simp [State.foreignTag_of_cons hr, htag]
  have hqueue : (s.scoreHealth x.consumer true).queue.records = r :: rest := by simpa using hr
  rw [State.result, State.resultOnRecord_answer hsame, hown, State.resultOnClass_issue hcls hqueue hst]
  exact if_pos htag

theorem verdictOf_eq_none {n : Nat} (h : n = 0 ∨ 6 ≤ n) : verdictOf n = none :=
  Option.not_isSome_iff_eq_none.1 fun hsome => verdictOf_isSome.1 hsome h

/-- Settles O53: the verdict, with the record's own tag or a foreign one. -/
theorem answerDecidesTheAttempt : Obligations.AnswerDecidesTheAttempt := by
  unfold Obligations.AnswerDecidesTheAttempt
  intro s x tag verdict starts start t r rest c hheld haw rate hhead hlen hnear hcls hsame hr hst hrx hc
    code present state good bad switching again on refused answer own
  have hrate : rate = s.fbc.rate.hundreds * 100 := by
    simp only [rate]
    cases s.fbc.rate <;> rfl
  have htakes : (s.at t).TakesReply x starts := State.takesReply_of (s := s.at t) haw hrate hhead hnear
  have hanswer := execAnswer_taken hheld htakes hlen (replyResult_answer hcls tag verdict)
  have hqueue : ({ s.queue with records := r :: rest } : MoveQueue) = s.queue := by rw [← hr]
  let quiet : State := ((s.at t).setFrx .mark).putLink (.online (.quiet t t))
  have hreached : quiet.sameRecord x = true := State.sameRecord_iff.2 ⟨hsame, c, (hrx ▸ hc : s.consumer? x.consumer = some c)⟩
  have hgood : quiet.scoreHealth x.consumer true = state (r :: rest) good (c.health == 40) := by
    rw [← hrx, State.scoreHealth_good (s := quiet) hc]
    simp only [state, hqueue, beq_iff_eq]
    rfl
  have hbad : quiet.scoreHealth x.consumer false =
      state (r :: rest) bad (decide (116 ≤ c.health ∧ c.health ≤ 119)) := by
    rw [← hrx, State.scoreHealth_bad (s := quiet) hc]
    simp only [state, hqueue, decide_eq_true_eq]
    rfl
  have hin (d : Consumer) (link : Bool) : (state (r :: rest) d link).queue.records = r :: rest := rfl
  have hseen : (state (r :: rest) good (c.health == 40)).consumer? r.consumer = some good := consumer?_of_set _ hc rfl
  have hrefused (d : Consumer) (v : Refused) :
      (state (r :: rest) good (c.health == 40)).moveEnded r rest d .refused (some v) = refused d v := by
    simp only [refused, State.moveEnded, state, List.set_set]
  have hagain (d : Consumer) (link : Bool) :
      (state (r :: rest) d link).attemptFailed r = state (again :: rest) d link :=
    State.attemptFailed_eq (q := (state (r :: rest) d link).queue) rfl rfl (hin d link)
  have hown {v : Verdict} (h : own) (hv : verdictOf code = some v) : answer = .next
      ((state (r :: rest) good (c.health == 40)).moveAnswered r v (phaseOfCode present)) := by
    rw [hv] at hanswer
    rw [← hgood, ← State.result_answer_own hreached hcls hr hst h.symm]
    exact hanswer
  have hforeign {v : Verdict} (h : ¬ own) (hv : verdictOf code = some v) : answer = .next
      ((state (r :: rest) bad (decide (116 ≤ c.health ∧ c.health ≤ 119))).attemptFailed r) := by
    rw [hv] at hanswer
    rw [← hbad, ← State.result_answer_foreign hreached hcls hr hst (fun htag => h htag.symm) v (phaseOfCode present)]
    exact hanswer
  refine ⟨fun hcode => ?_, fun hlow hhigh hnot => ?_, fun h hcode => ?_, fun h hcode => ?_, fun h hcode => ?_,
    fun h hcode => ?_, fun h hcode hopen => ?_, fun h hcode hphase => ?_, fun p h hcode hphase hne => ?_⟩
  · have hnone : verdictOf (verdict.toNat % 16) = none := verdictOf_eq_none hcode
    rw [hnone] at hanswer
    exact hanswer
  · have hsome : (verdictOf code).isSome = true := verdictOf_isSome.2 (by omega)
    obtain ⟨v, hv⟩ := Option.isSome_iff_exists.1 hsome
    rw [hforeign hnot hv, hagain]
  · rw [hown h (hcode ▸ rfl : verdictOf code = some .accept)]
    rfl
  · rw [hown h (hcode ▸ rfl : verdictOf code = some .busy), State.moveAnswered, hagain]
  · rw [hown h (hcode ▸ rfl : verdictOf code = some (.refuses .lockout)), State.moveAnswered,
      State.refusedMove_lockout (hin _ _) hseen, hrefused]
    rfl
  · rw [hown h (hcode ▸ rfl : verdictOf code = some (.refuses .novolt)), State.moveAnswered,
      State.refusedMove_novolt (hin _ _) hseen, hrefused]
    rfl
  · rw [hown h (hcode ▸ rfl : verdictOf code = some (.refuses .phase)), State.moveAnswered, hopen]
    refine congrArg Host.Outcome.next ((State.refusedMove_open (hin _ _) hseen).trans ?_)
    rw [hrefused]
    rfl
  · rw [hown h (hcode ▸ rfl : verdictOf code = some (.refuses .phase)), State.moveAnswered,
      phaseCode_of_phaseOfCode hphase, State.refusedMove_source (hin _ _) hseen, hrefused]
    rfl
  · rw [hown h (hcode ▸ rfl : verdictOf code = some (.refuses .phase)), State.moveAnswered,
      phaseCode_of_phaseOfCode hphase, State.refusedMove_elsewhere (hin _ _) hseen hne, hrefused]
    rfl

end Sys2Proof.Machine
